-- ==== Sys2Proof/Word.lean ====
section
/-! DEFINITION. The word types of the WF240's records (section 0.7, chapter 9). -/

namespace Sys2Proof

/-- One byte of a record or of a transaction's data. -/
abbrev Byte := BitVec 8

/-- A 16-bit word of a slot header; also a packet sequence number, a delivery sequence or a tag. -/
abbrev Word16 := BitVec 16

/-- A 32-bit word of the control page, an order tag, an account or a match reference. -/
abbrev Word32 := BitVec 32

end Sys2Proof
end

