-- ==== Sys2Proof/Config.lean ====
section
/-! DEFINITION. What the WF240 fixes: the counts and ranges of Table 0-3, and the one free value. -/

namespace Sys2Proof.Config

/-- Entries of the report hold queue (R33). -/
def holdCapacity : Nat := 16
/-- Entries kept free against notices (R34). -/
def noticeReserve : Nat := 4
/-- Transactions the forwarded stream holds (R16). -/
def streamCapacity : Nat := 16
/-- Entries of the own-traffic queue (R17). -/
def ownCapacity : Nat := 8
/-- Bytes of an order entry and of a report entry (R17). -/
def entryBytes : Nat := 128
/-- Bytes of the settings block (R17, R21). -/
def settingsBytes : Nat := 256
/-- Bytes of a slot header (section 4.1). -/
def headerBytes : Nat := 32
/-- Bytes of the control page (R4). -/
def controlPageBytes : Nat := 4096
/-- The control page stands at this multiple of the straps (R4). -/
def controlPageStride : Nat := 268435456
/-- House time saturates here (R49). -/
def houseMax : Nat := 2 ^ 40 - 1
/-- The first address above the 40-bit space (R1). -/
def addressLimit : Nat := 2 ^ 40
/-- 32-bit counters hold here (Table 0-3). -/
def count32Max : Nat := 2 ^ 32 - 1
/-- The delivered payload bytes of a meter hold here (Table 8-1). -/
def count48Max : Nat := 2 ^ 48 - 1
/-- The lost-notice count holds here (R39). -/
def lostMax : Nat := 65535
/-- Strikes hold here (R81). -/
def strikesMax : Nat := 15
/-- The good-run count holds here (R81). -/
def goodRunMax : Nat := 255
/-- The cap on a planned duration after extensions (R121). -/
def plannedMax : Nat := 172800000
/-- The cap on a booked duration at BOOK (R109). -/
def bookedMax : Nat := 86400000

/-- FREE VALUE (log 14): byte 0x1E of the data of a header read of exactly 31 bytes.
R142 and R143 give the read the header "up to its length"; R175 says that a read shorter than
32 bytes "receives no check word, and the part computes none for it". The value is left open; it is
applied to the counter `Port.freeCount`, so that each use may have its own. -/
opaque truncatedCheckByte : Nat → Byte

end Sys2Proof.Config
end

