-- ==== Sys2Proof/Syntax.lean ====
section
/-! DEFINITION. The commands of the block: one constructor for each row of spec/opcode_table.json. -/

namespace Sys2Proof

/-- The classes of the initiator class map (R5; codes of Table 9-1). -/
inductive InitiatorClass where
  | other | ingress | egress | control
deriving DecidableEq, Repr

/-- What a transaction asks for (R1). A write carries its bytes in address order, each with its byte
enable; a read carries its length. -/
inductive Access where
  | read (length : Nat)
  | write (bytes : List (Byte × Bool))
deriving DecidableEq, Repr

/-- A transaction on the system port (R1): initiator id, the interconnect's tag, 40-bit start address
and the access. -/
structure Txn where
  id : Fin 16
  tag : Nat
  addr : Nat
  access : Access
deriving DecidableEq, Repr

/-- The answer of memory, or of the part on the system port (R1, R2): OKAY with data (no data for a
write), or FAULT. -/
inductive Resp where
  | okay (data : List Byte)
  | fault
deriving DecidableEq, Repr

/-- The commands. A memory response names the memory-port tag of the transaction it answers; an order's
row carries that tag and the 128 bytes of the entry as memory returned them (R29, R177; log 10). -/
inductive Instr where
  /-- RESET_ASSERT (R19). -/
  | resetAssert
  /-- RESET_RELEASE (R19), with the straps sampled. -/
  | resetRelease (cpsel : Fin 16)
  /-- HOUSE_TICK (R47). -/
  | houseTick
  /-- SYSTEM_PORT_TRANSACTION (R6). -/
  | systemPortTransaction (t : Txn)
  /-- INGRESS_WRITE (R60). -/
  | ingressWrite (t : Txn)
  /-- HEADER_READ (R134). -/
  | headerRead (t : Txn)
  /-- PAYLOAD_READ (R145). -/
  | payloadRead (t : Txn)
  /-- MEMORY_PORT_ISSUE (R18). -/
  | memoryPortIssue
  /-- START_WRITE (R21): the value handed on. -/
  | startWrite (value : Word32)
  /-- ORDER_TAIL_WRITE (R27): the class and the value handed on. -/
  | orderTailWrite (cls : InitiatorClass) (value : Word32)
  /-- REPORT_CONSUMER_WRITE (R40): the class and the value handed on. -/
  | reportConsumerWrite (cls : InitiatorClass) (value : Word32)
  /-- MEMORY_RESPONSE (R10). -/
  | memoryResponse (mtag : Nat) (resp : Resp)
  /-- SETTINGS_LOAD_RESPONSE (R22). -/
  | settingsLoadResponse (mtag : Nat) (resp : Resp)
  /-- OWN_TRAFFIC_PLACE (R17). -/
  | ownTrafficPlace
  /-- ORDER_TAKE (R28). -/
  | orderTake
  /-- ORDER_FETCH_FAULT (R30). -/
  | orderFetchFault (mtag : Nat)
  /-- DEFINE_SOURCE (R77). -/
  | defineSource (mtag : Nat) (entry : List Byte)
  /-- CLEAR (R90). -/
  | clear (mtag : Nat) (entry : List Byte)
  /-- FORCE_LEG (R97). -/
  | forceLeg (mtag : Nat) (entry : List Byte)
  /-- TARIFF (R103). -/
  | tariff (mtag : Nat) (entry : List Byte)
  /-- BOOK (R111). -/
  | book (mtag : Nat) (entry : List Byte)
  /-- EXTEND (R121). -/
  | extend (mtag : Nat) (entry : List Byte)
  /-- RELEASE (R119). -/
  | release (mtag : Nat) (entry : List Byte)
  /-- CANCEL (R120). -/
  | cancel (mtag : Nat) (entry : List Byte)
  /-- METER (R123). -/
  | meter (mtag : Nat) (entry : List Byte)
  /-- DEFINE_WINDOW (R128). -/
  | defineWindow (mtag : Nat) (entry : List Byte)
  /-- SET_TIME (R55). -/
  | setTime (mtag : Nat) (entry : List Byte)
  /-- HALT (R43). -/
  | halt (mtag : Nat) (entry : List Byte)
  /-- SETTLEMENT_ENTRY (R166). -/
  | settlementEntry
  /-- REPORT_WRITE_BEGIN (R37). -/
  | reportWriteBegin
  /-- REPORT_WRITE_RESPONSE (R38): OKAY or FAULT. -/
  | reportWriteResponse (mtag : Nat) (okay : Bool)
  /-- HEAD_WORD_WRITE_RESPONSE (R42): OKAY or FAULT. -/
  | headWordWriteResponse (mtag : Nat) (okay : Bool)
  /-- STATUS_WORD_WRITE_RESPONSE (R26): OKAY or FAULT. -/
  | statusWordWriteResponse (mtag : Nat) (okay : Bool)
  /-- HALT_COMPLETION (R44). -/
  | haltCompletion
  /-- RATE_INTERVAL_EXPIRY (R54). -/
  | rateIntervalExpiry
  /-- SILENCE_EXPIRY (R87) of one source. -/
  | silenceExpiry (src : Fin 48)
  /-- WAIT_TO_RESTORE_EXPIRY (R96) of one booking's leg record. -/
  | waitToRestoreExpiry (b : Fin 256)
  /-- PREROLL_EXPIRY (R112) of one booking. -/
  | prerollExpiry (b : Fin 256)
  /-- LINE_CHECK_WAIT_EXPIRY (R113) of one booking. -/
  | lineCheckWaitExpiry (b : Fin 256)
  /-- START_EXPIRY (R115) of one booking. -/
  | startExpiry (b : Fin 256)
  /-- END_EXPIRY (R117) of one booking. -/
  | endExpiry (b : Fin 256)
  /-- OVERRUN_CAP_EXPIRY (R118) of one booking. -/
  | overrunCapExpiry (b : Fin 256)
  /-- REFCLK_EDGE (R47). -/
  | refclkEdge
  /-- UNKNOWN_ORDER_KIND (R32). -/
  | unknownOrderKind (mtag : Nat) (entry : List Byte)
deriving DecidableEq, Repr

end Sys2Proof
end

