-- ==== Sys2Proof/Decode.lean ====
section
/-! DEFINITION. Decoding of a word by the opcode table's bits. No row of spec/opcode_table.json gives
bits (each row's "fields" is empty and none has a pattern), so no word spells a command. -/

namespace Sys2Proof

/-- The command that a word spells by the table's bits: none, because no row gives bits. -/
def decodeTableWord (_nbits _w : Nat) : Option Instr := none

end Sys2Proof
end

