-- ==== Sys2Proof/Machine/State.lean ====
section
/-! DEFINITION. The state of the WF240 as plain data, block by block (Table 0-1), and the machine right
after reset. Every field cites the rule that names it; reset values the spec does not give are named in
the assumption log (logs 1, 2, 8, 14). -/

namespace Sys2Proof.Machine

/-! ### Named values (Table 9-1) -/

/-- Activation state (section 2.2). -/
inductive Activation where
  | passive | loading | active | halting
deriving DecidableEq, Repr

/-- Health state (Table 5-1). -/
inductive HealthState where
  | disabled | absent | good | suspect | failed
deriving DecidableEq, Repr

/-- Fault mode (Table 4-3). -/
inductive FaultMode where
  | latched | recovering
deriving DecidableEq, Repr

/-- Failure cause (Table 5-1). -/
inductive FailureCause where
  | silent | impaired
deriving DecidableEq, Repr

/-- Void causes, in the order of the checks (Table 4-2). -/
inductive VoidCause where
  | held | torn | check | tag | length | misplaced | stale | overRate
deriving DecidableEq, Repr

/-- Causes a HEALTH notice gives (R91). -/
inductive HealthCause where
  | accepted | gap | torn | check | tag | length | misplaced | silence | enable | disable | clear
deriving DecidableEq, Repr

/-- Protection mode (Table 6-2). -/
inductive Protection where
  | none | switch | merge
deriving DecidableEq, Repr

/-- A leg of a booking (Table 5-3). -/
inductive LegName where
  | main | backup
deriving DecidableEq, Repr

/-- Forced leg (Table 5-3). -/
inductive ForcedLeg where
  | auto | main | backup
deriving DecidableEq, Repr

/-- Leg change cause (R99). -/
inductive LegCause where
  | loss | restore | forced
deriving DecidableEq, Repr

/-- Booking state (Table 6-2). -/
inductive BookingState where
  | free | pending | preroll | onAir | overrun | settling
deriving DecidableEq, Repr

/-- End reason (Table 6-2). -/
inductive EndReason where
  | planned | released | yielded | capped | cancelled | halted
deriving DecidableEq, Repr

/-- Line-check state (Table 6-2). -/
inductive LineCheckState where
  | idle | waiting | done
deriving DecidableEq, Repr

/-- Line-check result (R114). -/
inductive LineCheckResult where
  | ready | degraded | notReady
deriving DecidableEq, Repr

/-- Line-check trigger (R114). -/
inductive LineCheckTrigger where
  | entry | health | wait | start
deriving DecidableEq, Repr

/-- Stray kinds, in the order of the counts (R13). -/
inductive StrayKind where
  | boundary | span | ingressWrite | ingressRead | deliveryWrite | deliveryRead
deriving DecidableEq, Repr

/-- Fill reasons (Table 7-3). -/
inductive FillReason where
  | unrouted | sourceDown | noBaseline | underrun | void
deriving DecidableEq, Repr

/-- Reasons for which an order is refused (Table 2-5). -/
inductive OrderReason where
  | malformed | range | noTariff | noSource | noWindow | tooLate | tableFull | conflict | noBooking
  | wrongState | inUse | busy | memory
deriving DecidableEq, Repr

/-- Rejection reasons of an activation (R25). -/
inductive RejectReason where
  | check | geometry | range | align | overlap | memory
deriving DecidableEq, Repr

/-- The watched words of the control page (R12). -/
inductive WatchedWord where
  | start | orderTail | reportConsumer
deriving DecidableEq, Repr

/-! ### Path decoder (chapter 1) -/

/-- A present entry of the region table (R4). -/
structure Region where
  base : Nat
  size : Nat
deriving DecidableEq, Repr

/-- The six stray counts (R13). -/
structure StrayCounts where
  boundary : Nat
  span : Nat
  ingressWrite : Nat
  ingressRead : Nat
  deliveryWrite : Nat
  deliveryRead : Nat
deriving DecidableEq, Repr

/-- The last offender (R13). -/
structure Offender where
  id : Fin 16
  addr : Nat
deriving DecidableEq, Repr

/-- The stray monitor (R13, R14). -/
structure StrayMonitor where
  counts : StrayCounts
  lastOffender : Option Offender
  outstanding : Bool
  index : Option Nat
deriving DecidableEq, Repr

/-- The path decoder: the sampled straps that place the control page entry, the two ring regions, the
class map and the stray monitor (R4, R5, R13). -/
structure PathState where
  cpsel : Fin 16
  ingress : Option Region
  delivery : Option Region
  classMap : Vector InitiatorClass 16
  stray : StrayMonitor
deriving DecidableEq, Repr

/-! ### Memory port (chapter 1) -/

/-- The header rewrite a translated header read carries (R9, R142): delivery tag, delivery sequence
before the advance, DISCONTINUITY and BACKUP_LEG. -/
structure Rewrite where
  tag : Word16
  seq : Word16
  disc : Bool
  backup : Bool
deriving DecidableEq, Repr

/-- An entry of the forwarded stream (R16): the transaction with the address it is issued at, the class
its initiator had at its arrival (R12) and the header rewrite of a translated header read. -/
structure Forwarded where
  txn : Txn
  cls : InitiatorClass
  rewrite : Option Rewrite
deriving DecidableEq, Repr

/-- What a transaction of the part's own traffic is for (R17). `reportHead` names the head it publishes
and whether that head publishes the HALT completion (R44); `status` says whether it is the PASSIVE
status write (R44). -/
inductive OwnPurpose where
  | settingsLoad
  | orderFetch (index : Nat)
  | reportWrite (index : Nat)
  | orderHead (value : Nat)
  | reportHead (value : Nat) (final : Bool)
  | status (passive : Bool)
deriving DecidableEq, Repr

/-- An entry of the own-traffic queue (R17). -/
structure OwnTxn where
  purpose : OwnPurpose
  addr : Nat
  access : Access
deriving DecidableEq, Repr

/-- Whom a memory response is for (R2): the initiator of a system-port transaction, with the rewrite its
data takes, or the block that placed own traffic. -/
inductive Purpose where
  | system (id : Fin 16) (tag : Nat) (rewrite : Option Rewrite)
  | own (p : OwnPurpose)
deriving DecidableEq, Repr

/-- A transaction issued on the memory port and awaiting its response (R2, R16). -/
structure Outstanding where
  mtag : Nat
  addr : Nat
  access : Access
  purpose : Purpose
deriving DecidableEq, Repr

/-- A response given on the system port (R1). -/
structure Answer where
  id : Fin 16
  tag : Nat
  resp : Resp
deriving DecidableEq, Repr

/-- The two streams the arbiter chooses between (R18). -/
inductive Stream where
  | forwarded | own
deriving DecidableEq, Repr

/-- The system and memory ports (R16, R17, R18). `heldOff`, `answers`, `nextTag` and `freeCount` are the
model's own fields (logs 6, 7, 8, 14). -/
structure Port where
  forwarded : List Forwarded
  own : List OwnTxn
  ownWaiting : List OwnTxn
  lastServed : Stream
  outstanding : List Outstanding
  nextTag : Nat
  heldOff : List Txn
  answers : List Answer
  freeCount : Nat
deriving DecidableEq, Repr

/-! ### Control monitor and order processor (chapter 2) -/

/-- The settings an activation records (R24). -/
structure Settings where
  d : Nat
  z : Nat
  lmin : Nat
  preroll : Nat
  lineWait : Nat
  attnEnable : Bool
  orderBase : Nat
  orderCount : Nat
  reportBase : Nat
  reportCount : Nat
deriving DecidableEq, Repr

/-- What the HALT completion carries, kept from the execution of HALT to its placement (R43, R44). -/
structure HaltAnswer where
  tag : Word32
  index : Nat
  created : Nat
deriving DecidableEq, Repr

/-- The writes whose responses PASSIVE entry still awaits (R44). -/
structure PassiveWait where
  status : Bool
  head : Bool
deriving DecidableEq, Repr

/-- Control monitor and order processor (R21, R24, R27, R28, R43). -/
structure Control where
  act : Activation
  startValue : Word32
  rejected : Bool
  check : Word32
  settings : Settings
  tail : Nat
  head : Nat
  fetching : Bool
  haltAnswer : Option HaltAnswer
  passiveWait : Option PassiveWait
deriving DecidableEq, Repr

/-! ### Booking table, meters and settlements (chapters 6 and 8) -/

/-- A handle (R105). -/
structure Handle where
  index : Fin 256
  gen : Byte
deriving DecidableEq, Repr

/-- A tariff class (Table 6-1). -/
structure Tariff where
  defined : Bool
  base : Nat
  fan : Nat
  overrun : Nat
  credit : Nat
  grace : Nat
  threshold : Nat
  lateWindow : Nat
deriving DecidableEq, Repr

/-- A meter record (Table 8-1). -/
structure Meter where
  delivered : Nat
  deliveredBytes : Nat
  fills : Nat
  skipped : Nat
  legSwitches : Nat
  spans : Nat
  longest : Nat
  qualifying : Nat
  openSpan : Option Nat
deriving DecidableEq, Repr

/-- The results of the stages of Table 8-2, with the CREDIT_CAPPED flag (R162). -/
structure Charges where
  bookedMs : Nat
  overrunMs : Nat
  chargeableMs : Nat
  qualifyingMs : Nat
  baseMin : Nat
  overMin : Nat
  creditMin : Nat
  baseCharge : Nat
  overCharge : Nat
  credit : Nat
  total : Nat
  capped : Bool
deriving DecidableEq, Repr

/-- The settlement record (R165), with its creation time (R36). -/
structure Settlement where
  created : Nat
  handle : Handle
  reason : EndReason
  lateCancel : Bool
  withdrawn : Bool
  account : Word32
  matchRef : Word32
  main : Fin 48
  backup : Option (Fin 48)
  mode : Protection
  windows : List (Fin 32)
  startS : Nat
  endE : Nat
  actStart : Option Nat
  actEnd : Option Nat
  cancelTime : Option Nat
  charges : Charges
  spans : Nat
  longest : Nat
  delivered : Nat
  deliveredBytes : Nat
  fills : Nat
  skipped : Nat
  legSwitches : Nat
deriving DecidableEq, Repr

/-- A booking entry (Table 6-2). `startS` and `endE` are the booked start S and planned end E,
`maxOver` is M; the last six fields before `held` are the expiries and the line check. -/
structure Booking where
  gen : Byte
  state : BookingState
  account : Word32
  matchRef : Word32
  main : Fin 48
  backup : Option (Fin 48)
  mode : Protection
  revert : Bool
  wtr : Nat
  windows : List (Fin 32)
  startS : Nat
  endE : Nat
  holdOn : Bool
  maxOver : Nat
  tariff : Tariff
  meter : Meter
  actStart : Option Nat
  actEnd : Option Nat
  cancelTime : Option Nat
  endReason : Option EndReason
  lineCheck : LineCheckState
  prerollExp : Option Nat
  startExp : Option Nat
  endExp : Option Nat
  capExp : Option Nat
  lineExp : Option Nat
  held : Option Settlement
deriving DecidableEq, Repr

/-- An item of a window's calendar list (R106). -/
structure CalItem where
  booking : Fin 256
  startS : Nat
  endE : Nat
deriving DecidableEq, Repr

/-! ### Arrival checker and health unit (chapters 4 and 5) -/

/-- A valid entry of a slot table (section 4.7). -/
structure SlotEntry where
  seq : Word16
  len : Nat
deriving DecidableEq, Repr

/-- The eight void counters (Table 4-3). -/
structure VoidCounters where
  held : Nat
  torn : Nat
  check : Nat
  tag : Nat
  length : Nat
  misplaced : Nat
  stale : Nat
  overRate : Nat
deriving DecidableEq, Repr

/-- A source record and its slot table (Table 4-3); an invalid slot entry is `none`. -/
structure Source where
  enabled : Bool
  tag : Word16
  silenceLimit : Nat
  faultMode : FaultMode
  strikeLimit : Nat
  recoveryCount : Nat
  allowance : Nat
  last : Option Word16
  newest : Option Nat
  intervalBytes : Nat
  overRate : Nat
  accepted : Nat
  gaps : Nat
  voids : VoidCounters
  slots : List (Option SlotEntry)
deriving DecidableEq, Repr

/-- A health record (Table 5-1). -/
structure Health where
  state : HealthState
  strikes : Nat
  goodRun : Nat
  silence : Option Nat
  cause : Option FailureCause
deriving DecidableEq, Repr

/-- A leg record (Table 5-3). -/
structure Leg where
  active : Option LegName
  forced : ForcedLeg
  wtrExp : Option Nat
deriving DecidableEq, Repr

/-! ### Window translator (chapter 7) -/

/-- A binding table entry (section 7.1). -/
inductive Binding where
  | none
  | fill
  | source (src : Fin 48) (slot : Nat) (seq : Word16) (len : Nat) (leg : LegName)
deriving DecidableEq, Repr

/-- The eight window counters (R152). -/
structure WindowCounters where
  delivered : Nat
  unrouted : Nat
  sourceDown : Nat
  noBaseline : Nat
  underrun : Nat
  void : Nat
  skipped : Nat
  realigns : Nat
deriving DecidableEq, Repr

/-- A window record and its binding table (Table 7-1). -/
structure Window where
  defined : Bool
  tag : Word16
  guard : Nat
  holder : Option Handle
  takePending : Bool
  shift : Nat
  last : Option Word16
  disc : Bool
  dseq : Word16
  fillRun : Nat
  counters : WindowCounters
  bindings : List Binding
deriving DecidableEq, Repr

/-! ### House time base (chapter 3) -/

/-- The house time base (R47). -/
structure TimeBase where
  divisor : Nat
  prescaler : Nat
  house : Nat
  running : Bool
  rateInterval : Nat
  rateExpiry : Option Nat
deriving DecidableEq, Repr

/-! ### Reports (chapter 2, layouts in chapter 9) -/

/-- The source snapshot of Table 9-11. -/
structure SourceSnapshot where
  enabled : Bool
  newest : Option Nat
  last : Option Word16
  intervalBytes : Nat
  accepted : Nat
  gaps : Nat
  voids : VoidCounters
deriving DecidableEq, Repr

/-- The window snapshot of Table 9-12. -/
structure WindowSnapshot where
  takePending : Bool
  shift : Nat
  holder : Option Handle
  last : Option Word16
  dseq : Word16
  fillRun : Nat
  counters : WindowCounters
deriving DecidableEq, Repr

/-- The results of a DONE completion (Table 9-10). -/
inductive OrderResult where
  | defineSource (src : Fin 48) (enable : Bool) (tag : Word16) (silenceLimit : Nat)
      (faultMode : FaultMode) (strikeLimit recoveryCount allowance : Nat) (snapshot : SourceSnapshot)
  | clear (src : Fin 48) (cause : Option FailureCause)
  | forceLeg (handle : Handle) (forced : ForcedLeg) (active : Option LegName)
  | tariff (cls : Fin 16) (definedBefore : Bool)
  | book (handle : Handle) (reached : BookingState) (startS endE : Nat) (account matchRef : Word32)
  | extend (handle : Handle) (state : BookingState) (newEnd granted : Nat)
  | release (handle : Handle) (actEnd : Nat)
  | cancel (handle : Handle) (late : Bool) (cancelTime : Nat)
  | defineWindow (window : Fin 32) (definedBefore : Bool) (tag : Word16) (guard : Nat)
      (snapshot : WindowSnapshot)
  | setTime (previous new : Nat)
  | halt
deriving DecidableEq, Repr

/-- The outcome a COMPLETION reports (R31): DONE with the CLAMPED flag and the results, or REFUSED. -/
inductive OrderOutcome where
  | done (clamped : Bool) (result : OrderResult)
  | refused (reason : OrderReason)
deriving DecidableEq, Repr

/-- A COMPLETION (Table 9-9). -/
structure Completion where
  kind : Byte
  tag : Word32
  index : Nat
  outcome : OrderOutcome
deriving DecidableEq, Repr

/-- A METER report (Table 9-13); `openLength` is present when a span was open at the reading (R171). -/
structure MeterReport where
  tag : Word32
  index : Nat
  handle : Handle
  state : BookingState
  startS : Nat
  endE : Nat
  actStart : Option Nat
  actEnd : Nat
  charges : Charges
  spans : Nat
  longest : Nat
  openLength : Option Nat
  delivered : Nat
  deliveredBytes : Nat
  fills : Nat
  skipped : Nat
  legSwitches : Nat
deriving DecidableEq, Repr

/-- A HEALTH notice (R91). -/
structure HealthNotice where
  src : Fin 48
  before : HealthState
  after : HealthState
  cause : HealthCause
  faultMode : FaultMode
  strikes : Nat
  goodRun : Nat
  failure : Option FailureCause
  snapshot : SourceSnapshot
deriving DecidableEq, Repr

/-- A LEG notice (R99). -/
structure LegNotice where
  handle : Handle
  before : LegName
  after : LegName
  forced : ForcedLeg
  cause : LegCause
  mainHealth : HealthState
  backupHealth : Option HealthState
deriving DecidableEq, Repr

/-- A LINE_CHECK notice (R114). -/
structure LineCheckNotice where
  handle : Handle
  result : LineCheckResult
  trigger : LineCheckTrigger
  mainHealth : HealthState
  backupHealth : Option HealthState
deriving DecidableEq, Repr

/-- An ON_AIR notice (R116). -/
structure OnAirNotice where
  handle : Handle
  mode : Protection
  active : Option LegName
  deliverable : Bool
  mainHealth : HealthState
  backupHealth : Option HealthState
  closed : Nat
  actStart : Nat
  endE : Nat
  windows : List (Fin 32)
deriving DecidableEq, Repr

/-- An OVERRUN notice (R117). -/
structure OverrunNotice where
  handle : Handle
  windows : List (Fin 32)
  endE : Nat
  capTime : Nat
deriving DecidableEq, Repr

/-- A RATE notice (R74). -/
structure RateNotice where
  src : Fin 48
  overRate : Nat
  total : Nat
  allowance : Nat
deriving DecidableEq, Repr

/-- A STRAY notice as created (R14); its last-offender fields are filled when its write begins. -/
structure StrayNotice where
  kind : StrayKind
  id : Fin 16
  addr : Nat
  counts : StrayCounts
deriving DecidableEq, Repr

/-- A BAD_INDEX notice (R41). -/
structure BadIndexNotice where
  word : WatchedWord
  value : Word32
  count : Nat
  head : Nat
  other : Nat
deriving DecidableEq, Repr

/-- The reports, by kind (Table 2-6). -/
inductive ReportBody where
  | completion (c : Completion)
  | meter (m : MeterReport)
  | settlement (x : Settlement)
  | health (n : HealthNotice)
  | leg (n : LegNotice)
  | lineCheck (n : LineCheckNotice)
  | onAir (n : OnAirNotice)
  | overrun (n : OverrunNotice)
  | rate (n : RateNotice)
  | stray (n : StrayNotice)
  | badIndex (n : BadIndexNotice)
deriving DecidableEq, Repr

/-- A report in the hold queue: its creation time is fixed, its lost-notice count is not (R36). -/
structure Report where
  created : Nat
  body : ReportBody
deriving DecidableEq, Repr

/-- The report write in flight: the ring index it goes to and the lost-notice count it carries
(R37, R38). -/
structure Posting where
  index : Nat
  lost : Nat
deriving DecidableEq, Repr

/-- The report poster: hold queue, report ring indices, lost-notice count (R33 to R42). -/
structure Poster where
  consumer : Nat
  head : Nat
  published : Nat
  publishedTag : Option Nat
  hold : List Report
  reserved : Bool
  lost : Nat
  posting : Option Posting
  haltPlaced : Bool
deriving DecidableEq, Repr

/-! ### The whole state -/

/-- The state of the part. -/
structure State where
  pending : List Instr
  resetLine : Bool
  path : PathState
  port : Port
  ctl : Control
  poster : Poster
  time : TimeBase
  sources : Vector Source 48
  health : Vector Health 48
  legs : Vector (Option Leg) 256
  tariffs : Vector Tariff 16
  bookings : Vector Booking 256
  calendar : Vector (List CalItem) 32
  useCounts : Vector Nat 48
  windows : Vector Window 32
  settlements : List (Fin 256)
deriving DecidableEq, Repr

/-- The spec names no event that stops the part: FAULT is a response, not a stop. No command of the model
faults. -/
inductive Fault where
deriving DecidableEq, Repr

/-- Reasons for which a command has no meaning in the model. -/
inductive Refusal where
  /-- The command's arm has no meaning yet. Raised by no arm of `exec` (every row has its meaning); safe. -/
  | notModelled (mnemonic : String)
deriving DecidableEq, Repr

/-! ### Reset values -/

def StrayCounts.zero : StrayCounts := ⟨0, 0, 0, 0, 0, 0⟩

/-- The stray monitor after RESET (R13, R14). -/
def StrayMonitor.reset : StrayMonitor :=
  { counts := .zero, lastOffender := none, outstanding := false, index := none }

/-- The path decoder after RESET, with the straps sampled (R4, R5, R19). -/
def PathState.reset (cpsel : Fin 16) : PathState :=
  { cpsel, ingress := none, delivery := none, classMap := Vector.replicate 16 .other, stray := .reset }

/-- The ports after RESET (R16, R17, R18), before anything was issued. -/
def Port.reset : Port :=
  { forwarded := [], own := [], ownWaiting := [], lastServed := .own, outstanding := [], nextTag := 0,
    heldOff := [], answers := [], freeCount := 0 }

/-- The settings before an activation (log 2; the ATTN enable is clear, R42). -/
def Settings.reset : Settings :=
  { d := 0, z := 0, lmin := 0, preroll := 0, lineWait := 0, attnEnable := false, orderBase := 0,
    orderCount := 0, reportBase := 0, reportCount := 0 }

/-- The control monitor and order processor after RESET and at PASSIVE entry (R45, R46). -/
def Control.reset : Control :=
  { act := .passive, startValue := 0, rejected := false, check := 0, settings := .reset, tail := 0,
    head := 0, fetching := false, haltAnswer := none, passiveWait := none }

/-- The report poster after RESET and at PASSIVE entry (R33, R39, R42, R45). -/
def Poster.reset : Poster :=
  { consumer := 0, head := 0, published := 0, publishedTag := none, hold := [], reserved := false,
    lost := 0, posting := none, haltPlaced := false }

/-- The time base after RESET (Table 3-1, R57). -/
def TimeBase.reset : TimeBase :=
  { divisor := 8, prescaler := 0, house := 0, running := false, rateInterval := 1000, rateExpiry := none }

def VoidCounters.zero : VoidCounters := ⟨0, 0, 0, 0, 0, 0, 0, 0⟩

/-- A source record after RESET (Table 4-3), with a wholly invalid slot table of `d` entries (R75). -/
def Source.reset (d : Nat) : Source :=
  { enabled := false, tag := 0, silenceLimit := 1000, faultMode := .latched, strikeLimit := 3,
    recoveryCount := 8, allowance := 0, last := none, newest := none, intervalBytes := 0, overRate := 0,
    accepted := 0, gaps := 0, voids := .zero, slots := List.replicate d none }

/-- A health record after RESET, at activation and at PASSIVE entry (R81). -/
def Health.reset : Health :=
  { state := .disabled, strikes := 0, goodRun := 0, silence := none, cause := none }

/-- A tariff class that is not defined (R102). -/
def Tariff.reset : Tariff :=
  { defined := false, base := 0, fan := 0, overrun := 0, credit := 0, grace := 0, threshold := 0,
    lateWindow := 0 }

/-- The initial values of a meter record (R154). -/
def Meter.reset : Meter :=
  { delivered := 0, deliveredBytes := 0, fills := 0, skipped := 0, legSwitches := 0, spans := 0,
    longest := 0, qualifying := 0, openSpan := none }

/-- A FREE booking entry with every field but the generation at its RESET value (R104). -/
def Booking.reset (gen : Byte) : Booking :=
  { gen, state := .free, account := 0, matchRef := 0, main := 0, backup := none, mode := .none,
    revert := false, wtr := 0, windows := [], startS := 0, endE := 0, holdOn := false, maxOver := 0,
    tariff := .reset, meter := .reset, actStart := none, actEnd := none, cancelTime := none,
    endReason := none, lineCheck := .idle, prerollExp := none, startExp := none, endExp := none,
    capExp := none, lineExp := none, held := none }

def WindowCounters.zero : WindowCounters := ⟨0, 0, 0, 0, 0, 0, 0, 0⟩

/-- A window record after RESET (Table 7-1), with a binding table of `d` entries, all NONE (R127). -/
def Window.reset (d : Nat) : Window :=
  { defined := false, tag := 0, guard := 2, holder := none, takePending := false, shift := 0,
    last := none, disc := false, dseq := 0, fillRun := 0, counters := .zero,
    bindings := List.replicate d .none }

/-- The part right after reset: RESET has been asserted and released with the straps at 0 (R19, log 1),
the part is PASSIVE and the forwarding mode applies. -/
def State.reset : State :=
  { pending := [], resetLine := false, path := .reset 0, port := .reset, ctl := .reset,
    poster := .reset, time := .reset,
    sources := Vector.replicate 48 (.reset 0), health := Vector.replicate 48 .reset,
    legs := Vector.replicate 256 none, tariffs := Vector.replicate 16 .reset,
    bookings := Vector.replicate 256 (.reset 0), calendar := Vector.replicate 32 [],
    useCounts := Vector.replicate 48 0, windows := Vector.replicate 32 (.reset 0),
    settlements := [] }

end Sys2Proof.Machine
end

