-- ==== Sys2Proof/WellFormed.lean ====
section
/-! DEFINITION. Which commands the ports of the part can carry: the ranges R1 gives a transaction, the
length of the records memory returns, and the kind byte that an order's row answers to. The meanings do
not depend on it: they are total, and a command outside it is handled by the same rules. -/

namespace Sys2Proof

/-- The bytes an access covers. -/
def Access.length : Access → Nat
  | .read n => n
  | .write bytes => bytes.length

/-- The data bytes of a write, and none for a read. -/
def Access.isWrite : Access → Bool
  | .read _ => false
  | .write _ => true

/-- A transaction of R1: a 40-bit start address, 1 to 8192 bytes, within the address space (log 13). -/
def Txn.wf (t : Txn) : Bool :=
  t.addr < Config.addressLimit && 1 ≤ t.access.length && t.access.length ≤ 8192 &&
    t.addr + t.access.length ≤ Config.addressLimit

/-- An order entry of 128 bytes whose kind byte is `code` (R17, Table 9-6). -/
def orderEntryWf (code : Nat) (entry : List Byte) : Bool :=
  entry.length == Config.entryBytes && (entry.headD 0).toNat == code

/-- The data of a memory response to a read of `n` bytes has `n` bytes (R1). -/
def Resp.wf (n : Nat) : Resp → Bool
  | .okay data => data.length == n
  | .fault => true

/-- Well-formed commands. -/
def Instr.wf : Instr → Bool
  | .resetAssert => true
  | .resetRelease _ => true
  | .houseTick => true
  | .systemPortTransaction t => t.wf
  | .ingressWrite t => t.wf && t.access.isWrite
  | .headerRead t => t.wf && !t.access.isWrite
  | .payloadRead t => t.wf && !t.access.isWrite
  | .memoryPortIssue => true
  | .startWrite _ => true
  | .orderTailWrite _ _ => true
  | .reportConsumerWrite _ _ => true
  | .memoryResponse _ (.okay data) => data.length ≤ 8192
  | .memoryResponse _ .fault => true
  | .settingsLoadResponse _ r => r.wf Config.settingsBytes
  | .ownTrafficPlace => true
  | .orderTake => true
  | .orderFetchFault _ => true
  | .defineSource _ e => orderEntryWf 1 e
  | .clear _ e => orderEntryWf 2 e
  | .forceLeg _ e => orderEntryWf 3 e
  | .tariff _ e => orderEntryWf 4 e
  | .book _ e => orderEntryWf 5 e
  | .extend _ e => orderEntryWf 6 e
  | .release _ e => orderEntryWf 7 e
  | .cancel _ e => orderEntryWf 8 e
  | .meter _ e => orderEntryWf 9 e
  | .defineWindow _ e => orderEntryWf 10 e
  | .setTime _ e => orderEntryWf 11 e
  | .halt _ e => orderEntryWf 12 e
  | .settlementEntry => true
  | .reportWriteBegin => true
  | .reportWriteResponse _ _ => true
  | .headWordWriteResponse _ _ => true
  | .statusWordWriteResponse _ _ => true
  | .haltCompletion => true
  | .rateIntervalExpiry => true
  | .silenceExpiry _ => true
  | .waitToRestoreExpiry _ => true
  | .prerollExpiry _ => true
  | .lineCheckWaitExpiry _ => true
  | .startExpiry _ => true
  | .endExpiry _ => true
  | .overrunCapExpiry _ => true
  | .refclkEdge => true
  | .unknownOrderKind _ e =>
    e.length == Config.entryBytes && ((e.headD 0).toNat == 0 || 13 ≤ (e.headD 0).toNat)

end Sys2Proof
end

