-- ==== Sys2Proof/Machine/Operands.lean ====
section
/-! DEFINITION. Operand forms: how the part reads the records memory and the line cards give it (chapter 9):
little-endian fields, the slot header, the settings block, the order entries, and the words a control-page
write covers. -/

namespace Sys2Proof.Machine

/-! ### Little-endian fields (0.7) -/

/-- A little-endian number. -/
def leNat : List Byte → Nat
  | [] => 0
  | b :: bs => b.toNat + 256 * leNat bs

/-- The field of `n` bytes at offset `off` of a record, least significant byte first. -/
def field (e : List Byte) (off n : Nat) : Nat := leNat ((e.drop off).take n)

/-- The byte at offset `i` of a record. -/
def byteAt (e : List Byte) (i : Nat) : Byte := e.getD i 0

/-- The 16-bit word at offset `off`. -/
def word16At (e : List Byte) (off : Nat) : Word16 := BitVec.ofNat 16 (field e off 2)

/-- The 32-bit word at offset `off`. -/
def word32At (e : List Byte) (off : Nat) : Word32 := BitVec.ofNat 32 (field e off 4)

/-- The exclusive OR of a list of 16-bit words. -/
def xor16 (ws : List Word16) : Word16 := ws.foldl (· ^^^ ·) 0

/-- The exclusive OR of a list of 32-bit words. -/
def xor32 (ws : List Word32) : Word32 := ws.foldl (· ^^^ ·) 0

/-- `n` as an index below `k`, if it is one. -/
def indexOf? (k n : Nat) : Option (Fin k) := if h : n < k then some ⟨n, h⟩ else none

/-! ### Writes of the ingress region (R60) -/

/-- How the arrival checker classes a write handed to it (R60). -/
inductive WriteClass where
  | payload | commit | torn
deriving DecidableEq, Repr

/-- The classification of R60, from the slot offset and the bytes with their enables. -/
def classifyWrite (off : Nat) (bytes : List (Byte × Bool)) : WriteClass :=
  if Config.headerBytes ≤ off then .payload
  else if off = 0 && Config.headerBytes ≤ bytes.length &&
      (bytes.take Config.headerBytes).all (·.2) then .commit
  else .torn

/-- The header a commit carries: the data of its first 32 bytes (R60, R175). -/
def commitHeader (bytes : List (Byte × Bool)) : List Byte :=
  (bytes.take Config.headerBytes).map (·.1)

/-- Words 0 to 14 of a slot header (Table 9-2). -/
def headerBody (h : List Byte) : List Word16 := (List.range 15).map fun n => word16At h (2 * n)

/-- Feed tag, sequence, payload length and check word of a slot header (Table 9-2). -/
def headerTag (h : List Byte) : Word16 := word16At h 0
def headerSeq (h : List Byte) : Word16 := word16At h 2
def headerLength (h : List Byte) : Nat := field h 4 2
def headerCheck (h : List Byte) : Word16 := word16At h 30

/-- The check word is correct when it is the exclusive OR of the fifteen words before it (R59). -/
def headerCheckOk (h : List Byte) : Bool := headerCheck h == xor16 (headerBody h)

/-! ### Watched words (R12) -/

/-- The offset of a watched word in the control page (R12). -/
def WatchedWord.offset : WatchedWord → Nat
  | .start => 0x100
  | .orderTail => 0x200
  | .reportConsumer => 0x300

/-- The watched words in ascending offset order (R12). -/
def watchedWords : List WatchedWord := [.start, .orderTail, .reportConsumer]

/-- The 32-bit word at address `a` that a write covers with all four bytes, and `none` for a read or a
write that covers only some of them. A byte whose enable is clear is not written (R1) and so not covered
(log 11). -/
def coveredWord (t : Txn) (a : Nat) : Option Word32 :=
  match t.access with
  | .read _ => none
  | .write bytes =>
    if t.addr ≤ a && a + 4 ≤ t.addr + bytes.length then
      let w := (bytes.drop (a - t.addr)).take 4
      if w.all (·.2) then some (word32At (w.map (·.1)) 0) else none
    else none

/-! ### Order entries (Tables 9-6 and 9-7) -/

/-- Kind code of an order entry. -/
def orderKind (e : List Byte) : Nat := (byteAt e 0).toNat
/-- Order tag of an order entry. -/
def orderTag (e : List Byte) : Word32 := word32At e 4

/-- Order kind codes 1 to 12 (Table 9-1). -/
def knownKind (code : Nat) : Bool := 1 ≤ code && code ≤ 12

/-- The fields (offset, size) that Table 9-7 gives a kind. The window list of BOOK is as long as its
window count when that count lies in 1 to 4 (R173). -/
def orderFields (code : Nat) (e : List Byte) : List (Nat × Nat) :=
  match code with
  | 1 => [(0x08, 1), (0x09, 1), (0x0A, 2), (0x0C, 4), (0x10, 1), (0x11, 1), (0x12, 1), (0x14, 4)]
  | 2 => [(0x08, 1)]
  | 3 => [(0x08, 2), (0x0A, 1)]
  | 4 => [(0x08, 1), (0x0C, 4), (0x10, 4), (0x14, 4), (0x18, 4), (0x1C, 4), (0x20, 4), (0x24, 4)]
  | 5 =>
    let count := field e 0x0E 1
    [(0x08, 1), (0x09, 1), (0x0A, 1), (0x0B, 1), (0x0C, 1), (0x0D, 1), (0x0E, 1),
      (0x10, if 1 ≤ count && count ≤ 4 then count else 4),
      (0x14, 4), (0x18, 4), (0x1C, 4), (0x20, 4), (0x28, 8), (0x30, 8)]
  | 6 => [(0x08, 2), (0x0C, 4)]
  | 7 => [(0x08, 2)]
  | 8 => [(0x08, 2)]
  | 9 => [(0x08, 2)]
  | 10 => [(0x08, 2), (0x0A, 2), (0x0C, 2)]
  | 11 => [(0x08, 8)]
  | _ => []

/-- Whether a byte of the entry belongs to a field: the kind byte, the tag, or a field of the kind. -/
def fieldByte (code : Nat) (e : List Byte) (i : Nat) : Bool :=
  ((0, 1) :: (4, 4) :: orderFields code e).any fun f => f.1 ≤ i && i < f.1 + f.2

/-- The shape check of R32 and R173: the kind is known and every unused byte is 0. -/
def shapeOk (code : Nat) (e : List Byte) : Bool :=
  knownKind code &&
    (List.range Config.entryBytes).all fun i => fieldByte code e i || byteAt e i == 0

/-- The handle field at 0x08: index in the low byte, generation in the high byte (section 9.1). -/
def orderHandle (e : List Byte) : Handle := { index := (byteAt e 0x08).toFin, gen := byteAt e 0x09 }

/-- Fault mode code (Table 9-1). -/
def faultModeOf? : Nat → Option FaultMode
  | 0 => some .latched
  | 1 => some .recovering
  | _ => none

/-- Protection mode code (Table 9-1). -/
def protectionOf? : Nat → Option Protection
  | 0 => some .none
  | 1 => some .switch
  | 2 => some .merge
  | _ => none

/-- Forced leg code (Table 9-1). -/
def forcedLegOf? : Nat → Option ForcedLeg
  | 0 => some .auto
  | 1 => some .main
  | 2 => some .backup
  | _ => none

/-- A flag byte that accepts 0 and 1 alone (section 9.4). -/
def flagOf? : Nat → Option Bool
  | 0 => some false
  | 1 => some true
  | _ => none

/-- Initiator class code (Table 9-1). -/
def classOf? : Nat → Option InitiatorClass
  | 0 => some .other
  | 1 => some .ingress
  | 2 => some .egress
  | 3 => some .control
  | _ => none

/-- The backup source of a BOOK: NONE at 0xFF alone, else a source below 48 (section 9.4). The outer
option is the range check. -/
def backupOf? (n : Nat) : Option (Option (Fin 48)) :=
  if n = 0xFF then some none else (indexOf? 48 n).map some

/-- The window list of a BOOK whose count is `count`: each below 32, in order, distinct (R109). -/
def windowsOf? (e : List Byte) (count : Nat) : Option (List (Fin 32)) :=
  if 1 ≤ count && count ≤ 4 then
    match ((List.range count).map fun i => field e (0x10 + i) 1).mapM (indexOf? 32) with
    | some ws => if ws.Nodup then some ws else none
    | none => none
  else none

/-- The fields of a DEFINE_SOURCE order in range (R77), the silence limit not yet clamped. -/
structure SourceOrder where
  src : Fin 48
  enable : Bool
  tag : Word16
  silence : Nat
  faultMode : FaultMode
  strikeLimit : Nat
  recoveryCount : Nat
  allowance : Nat
deriving DecidableEq, Repr

/-- The range checks of R77, as one reading of the entry. -/
def sourceOrder? (e : List Byte) : Option SourceOrder :=
  match indexOf? 48 (field e 0x08 1), flagOf? (field e 0x09 1), faultModeOf? (field e 0x10 1) with
  | some src, some enable, some faultMode =>
    let tag := word16At e 0x0A
    let strikeLimit := field e 0x11 1
    let recoveryCount := field e 0x12 1
    if tag ≠ 0 ∧ 1 ≤ strikeLimit ∧ strikeLimit ≤ 15 ∧ 1 ≤ recoveryCount ∧ recoveryCount ≤ 255 then
      some { src, enable, tag, silence := field e 0x0C 4, faultMode, strikeLimit, recoveryCount,
             allowance := field e 0x14 4 }
    else none
  | _, _, _ => none

/-- The class number and the tariff of a TARIFF order in range (R103). -/
def tariffOrder? (e : List Byte) : Option (Fin 16 × Tariff) :=
  match indexOf? 16 (field e 0x08 1) with
  | some c =>
    let t : Tariff :=
      { defined := true, base := field e 0x0C 4, fan := field e 0x10 4, overrun := field e 0x14 4,
        credit := field e 0x18 4, grace := field e 0x1C 4, threshold := field e 0x20 4,
        lateWindow := field e 0x24 4 }
    if t.base ≤ 1000000 ∧ t.fan ≤ 1000000 ∧ t.overrun ≤ 1000000 ∧ t.credit ≤ 1000000 ∧
        t.grace ≤ 600000 ∧ t.threshold ≤ 600000 ∧ t.lateWindow ≤ 86400000 then some (c, t)
    else none
  | none => none

/-- The fields of a BOOK order in range (Table 6-3). -/
structure BookOrder where
  cls : Fin 16
  main : Fin 48
  backup : Option (Fin 48)
  mode : Protection
  revert : Bool
  holdOn : Bool
  windows : List (Fin 32)
  wtr : Nat
  maxOver : Nat
  account : Word32
  matchRef : Word32
  startS : Nat
  endE : Nat
deriving DecidableEq, Repr

/-- The rules of R109 that tie the fields of a BOOK together. -/
def BookOrder.consistent (o : BookOrder) : Bool :=
  o.startS < 2 ^ 40 && o.endE < 2 ^ 40 && o.startS < o.endE &&
    o.endE - o.startS ≤ Config.bookedMax && o.maxOver ≤ 7200000 && o.wtr ≤ 600000 &&
    (match o.mode with
      | .none => o.backup == none && !o.revert && o.wtr == 0
      | .switch => o.backup.isSome && o.backup != some o.main
      | .merge => o.backup.isSome && o.backup != some o.main && !o.revert && o.wtr == 0)

/-- The range checks of R109, as one reading of the entry. -/
def bookOrder? (e : List Byte) : Option BookOrder :=
  match indexOf? 16 (field e 0x08 1), indexOf? 48 (field e 0x09 1), backupOf? (field e 0x0A 1),
      protectionOf? (field e 0x0B 1), flagOf? (field e 0x0C 1), flagOf? (field e 0x0D 1),
      windowsOf? e (field e 0x0E 1) with
  | some cls, some main, some backup, some mode, some revert, some holdOn, some windows =>
    let o : BookOrder :=
      { cls, main, backup, mode, revert, holdOn, windows, wtr := field e 0x14 4,
        maxOver := field e 0x18 4, account := word32At e 0x1C, matchRef := word32At e 0x20,
        startS := field e 0x28 8, endE := field e 0x30 8 }
    if o.consistent then some o else none
  | _, _, _, _, _, _, _ => none

/-! ### The settings block (Table 9-4) -/

/-- The computed settings check: the exclusive OR of the 62 words at 0x000 to 0x0F4 (R22). -/
def settingsCheck (b : List Byte) : Word32 := xor32 ((List.range 62).map fun n => word32At b (4 * n))

/-- The settings check field at 0x0F8 (R22). -/
def settingsCheckField (b : List Byte) : Word32 := word32At b 0x0F8

/-- The fields of the settings block, as read (Table 9-4). -/
structure SettingsFields where
  d : Nat
  z : Nat
  orderCount : Nat
  reportCount : Nat
  ingressBase : Nat
  deliveryBase : Nat
  orderBase : Nat
  reportBase : Nat
  initialTime : Nat
  divisor : Nat
  rateInterval : Nat
  lmin : Nat
  preroll : Nat
  lineWait : Nat
  classes : Vector Nat 16
  attn : Nat
deriving DecidableEq, Repr

/-- Reading the settings block (Table 9-4). -/
def settingsFields (b : List Byte) : SettingsFields :=
  { d := field b 0x000 2, z := field b 0x002 2, orderCount := field b 0x004 2,
    reportCount := field b 0x006 2, ingressBase := field b 0x008 8, deliveryBase := field b 0x010 8,
    orderBase := field b 0x018 8, reportBase := field b 0x020 8, initialTime := field b 0x028 8,
    divisor := field b 0x030 3, rateInterval := field b 0x034 2, lmin := field b 0x036 2,
    preroll := field b 0x038 4, lineWait := field b 0x03C 4,
    classes := Vector.ofFn fun i : Fin 16 => field b (0x040 + i.val) 1, attn := field b 0x050 1 }

/-- The size of the ingress region, 48·D·Z (R4). -/
def SettingsFields.ingressSize (f : SettingsFields) : Nat := 48 * f.d * f.z
/-- The size of the delivery region, 32·D·Z (R4). -/
def SettingsFields.deliverySize (f : SettingsFields) : Nat := 32 * f.d * f.z

/-- The least power of two not below `n`, for `n` at least 2. -/
def pow2Ceil (n : Nat) : Nat := 2 ^ (Nat.log2 (n - 1) + 1)

/-- The GEOMETRY group of Table 2-3. -/
def SettingsFields.geometryOk (f : SettingsFields) : Bool :=
  [16, 32, 64].contains f.d && [2048, 4096, 8192].contains f.z &&
    [16, 32, 64, 128, 256, 512, 1024, 2048, 4096].contains f.orderCount &&
    [16, 32, 64, 128, 256, 512, 1024, 2048, 4096].contains f.reportCount

/-- The RANGE group of Table 2-3. -/
def SettingsFields.rangeOk (f : SettingsFields) : Bool :=
  f.classes.toList.all (fun c => (classOf? c).isSome) && (flagOf? f.attn).isSome &&
    f.preroll ≤ 600000 && f.lineWait ≤ 30000 && f.lmin + 32 ≤ f.z &&
    f.ingressBase < 2 ^ 40 && f.deliveryBase < 2 ^ 40 && f.orderBase < 2 ^ 40 &&
    f.reportBase < 2 ^ 40 && f.initialTime < 2 ^ 40

/-- The ALIGN group of Table 2-3. -/
def SettingsFields.alignOk (f : SettingsFields) : Bool :=
  f.ingressBase % pow2Ceil f.ingressSize == 0 && f.deliveryBase % f.deliverySize == 0 &&
    f.orderBase % (f.orderCount * 128) == 0 && f.reportBase % (f.reportCount * 128) == 0

/-- Two areas, as base and size, share no byte. -/
def areasApart (a b : Nat × Nat) : Bool := a.1 + a.2 ≤ b.1 || b.1 + b.2 ≤ a.1

/-- The five areas of the OVERLAP group, as base and size. -/
def SettingsFields.areas (f : SettingsFields) (pageBase : Nat) : List (Nat × Nat) :=
  [(f.ingressBase, f.ingressSize), (f.deliveryBase, f.deliverySize),
    (f.orderBase, f.orderCount * 128), (f.reportBase, f.reportCount * 128),
    (pageBase, Config.controlPageBytes)]

/-- Every pair of a list of areas shares no byte. -/
def allApart : List (Nat × Nat) → Bool
  | [] => true
  | a :: rest => rest.all (areasApart a) && allApart rest

/-- The OVERLAP group of Table 2-3. -/
def SettingsFields.overlapOk (f : SettingsFields) (pageBase : Nat) : Bool :=
  allApart (f.areas pageBase) && (f.areas pageBase).all fun a => a.1 + a.2 ≤ Config.addressLimit

/-- Validation of the loaded block against the recorded START value: the reason of the first group that
fails, or none (R22). -/
def validateSettings (b : List Byte) (startValue : Word32) (pageBase : Nat) : Option RejectReason :=
  let f := settingsFields b
  if settingsCheck b ≠ settingsCheckField b ∨ settingsCheck b ≠ startValue then some .check
  else if !f.geometryOk then some .geometry
  else if !f.rangeOk then some .range
  else if !f.alignOk then some .align
  else if !f.overlapOk pageBase then some .overlap
  else none

/-- The REFCLK divisor as used (R23). -/
def SettingsFields.divisorUsed (f : SettingsFields) : Nat := max 8 f.divisor
/-- The rate interval as used (R23). -/
def SettingsFields.rateUsed (f : SettingsFields) : Nat := min 1000 (max 1 f.rateInterval)
/-- Whether either field was clamped (R23). -/
def SettingsFields.clamped (f : SettingsFields) : Bool :=
  f.divisorUsed != f.divisor || f.rateUsed != f.rateInterval

/-- The settings that an activation records (R24). -/
def SettingsFields.settings (f : SettingsFields) : Settings :=
  { d := f.d, z := f.z, lmin := f.lmin, preroll := f.preroll, lineWait := f.lineWait,
    attnEnable := f.attn == 1, orderBase := f.orderBase, orderCount := f.orderCount,
    reportBase := f.reportBase, reportCount := f.reportCount }

end Sys2Proof.Machine
end

