-- ==== Sys2Proof/Machine/Flags.lean ====
section
/-! DEFINITION. The conditions the part judges: serial comparison, saturation, availability and
deliverability, the due expiries, the free entries of the hold queue, room in the ring, and ATTN. -/

namespace Sys2Proof.Machine

/-! ### Arithmetic -/

/-- `a` is newer than `b` (R133). -/
def newer (a b : Word16) : Bool := 1 ≤ (a - b).toNat && (a - b).toNat ≤ 32767

/-- `q` is newer than the last sequence; where none is present there is nothing to be older than
(log 19). -/
def newerThan (q : Word16) : Option Word16 → Bool
  | none => true
  | some l => newer q l

/-- The distance d from the last delivered sequence to `q` (R133); 1 where none is present (log 19). -/
def distance (q : Word16) : Option Word16 → Nat
  | none => 1
  | some l => (q - l).toNat

/-- A 32-bit counter raised by `n`, holding at its maximum (Table 0-3). -/
def add32 (c n : Nat) : Nat := min Config.count32Max (c + n)

/-- The delivered payload bytes raised by `n`, holding at 2^48 - 1 (Table 8-1). -/
def add48 (c n : Nat) : Nat := min Config.count48Max (c + n)

/-- An expiry is due when it is armed at a time that house time has reached (R51, R52). -/
def dueAt (now : Nat) : Option Nat → Bool
  | none => false
  | some t => t ≤ now

/-! ### Time base -/

def State.now (s : State) : Nat := s.time.house

/-- Some expiry of a booking entry is due. -/
def Booking.anyDue (now : Nat) (b : Booking) : Bool :=
  dueAt now b.prerollExp || dueAt now b.startExp || dueAt now b.endExp || dueAt now b.capExp ||
    dueAt now b.lineExp

/-- Some expiry of the part is due and not yet taken (Table 3-2). -/
def State.anyDue (s : State) : Bool :=
  dueAt s.now s.time.rateExpiry ||
    s.health.toList.any (fun h => dueAt s.now h.silence) ||
    s.legs.toList.any (fun l => match l with | none => false | some r => dueAt s.now r.wtrExp) ||
    s.bookings.toList.any (Booking.anyDue s.now)

/-! ### Path decoder -/

/-- The decoding mode (R3). -/
def State.decoding (s : State) : Bool :=
  match s.ctl.act with
  | .active | .halting => true
  | .passive | .loading => false

/-- The base of the control page (R4). -/
def PathState.pageBase (p : PathState) : Nat := Config.controlPageStride * p.cpsel.val

/-- A range [a, a+n) has a byte inside the region (R6). -/
def Region.meets (r : Region) (a n : Nat) : Bool := a < r.base + r.size && r.base < a + n

/-- A range [a, a+n) lies wholly inside the region (R6). -/
def Region.contains (r : Region) (a n : Nat) : Bool := r.base ≤ a && a + n ≤ r.base + r.size

/-- An optional region entry, met by a range; an absent entry is met by none. -/
def meets (r : Option Region) (a n : Nat) : Bool := match r with | none => false | some x => x.meets a n

/-- An optional region entry that contains a range. -/
def contains (r : Option Region) (a n : Nat) : Bool :=
  match r with | none => false | some x => x.contains a n

/-- The base of an entry, 0 where it is absent. -/
def regionBase (r : Option Region) : Nat := match r with | none => 0 | some x => x.base

/-! ### Health and bookings -/

/-- GOOD and SUSPECT are available (R82). -/
def HealthState.available : HealthState → Bool
  | .good | .suspect => true
  | .disabled | .absent | .failed => false

/-- The health state of a source. -/
def State.healthOf (s : State) (i : Fin 48) : HealthState := s.health[i].state

/-- A source is available (R82). -/
def State.available (s : State) (i : Fin 48) : Bool := (s.healthOf i).available

/-- An optional backup source is named and available. -/
def State.backupAvailable (s : State) (x : Option (Fin 48)) : Bool :=
  match x with | none => false | some i => s.available i

/-- The booking names the source as main or backup. -/
def Booking.names (b : Booking) (i : Fin 48) : Bool := b.main == i || b.backup == some i

/-- The sources the booking names. -/
def Booking.sources (b : Booking) : List (Fin 48) := b.main :: b.backup.toList

/-- ON_AIR or OVERRUN. -/
def BookingState.onAirOrOverrun : BookingState → Bool
  | .onAir | .overrun => true
  | _ => false

/-- PREROLL, ON_AIR or OVERRUN: the states that hold sources (R108). -/
def BookingState.holdsSources : BookingState → Bool
  | .preroll | .onAir | .overrun => true
  | _ => false

/-- PENDING, PREROLL, ON_AIR or OVERRUN: not closed (R106). -/
def BookingState.live : BookingState → Bool
  | .pending | .preroll | .onAir | .overrun => true
  | .free | .settling => false

/-- The leg of a SWITCH booking that is forced, AUTO where there is no record. -/
def State.forcedOf (s : State) (i : Fin 256) : ForcedLeg :=
  match s.legs[i] with | none => .auto | some l => l.forced

/-- The active leg of a booking, absent where there is no record. -/
def State.activeOf (s : State) (i : Fin 256) : Option LegName :=
  match s.legs[i] with | none => none | some l => l.active

/-- Deliverability (R100). -/
def State.deliverable (s : State) (i : Fin 256) : Bool :=
  let b := s.bookings[i]
  let m := s.available b.main
  let k := s.backupAvailable b.backup
  match b.mode with
  | .none => m
  | .merge => m || k
  | .switch =>
    match s.forcedOf i with
    | .auto => m || k
    | .main => m
    | .backup => k

/-- The entries whose booking has a property, in ascending order. -/
def State.bookingsWhere (s : State) (p : Booking → Bool) : List (Fin 256) :=
  (List.finRange 256).filter fun i => p s.bookings[i]

/-- The handle of the booking in an entry (R105). -/
def State.handleOf (s : State) (i : Fin 256) : Handle := { index := i, gen := s.bookings[i].gen }

/-- Two planned intervals overlap (R107). -/
def overlaps (s1 e1 s2 e2 : Nat) : Bool := s1 < e2 && s2 < e1

/-! ### Report poster -/

/-- Free entries of the hold queue (R33). -/
def Poster.free (p : Poster) : Nat := Config.holdCapacity - (p.hold.length + p.reserved.toNat)

/-- A notice is accepted: 4 entries would still be free after it took one, and the HALT completion has not
been placed (R34). -/
def Poster.accepts (p : Poster) : Bool := Config.noticeReserve + 1 ≤ p.free && !p.haltPlaced

/-- The ring has room (R37). -/
def Poster.room (p : Poster) (count : Nat) : Bool := (p.head + 1) % count != p.consumer

/-- `x` lies on the forward path of the ring from `a` up to, not including, `b`. -/
def onForwardPath (count a b x : Nat) : Bool :=
  (x + (count - a)) % count < (b + (count - a)) % count

/-- A consumer value is accepted (R40): below the count and on the forward path from the consumer to the
head, both ends included. -/
def Poster.consumerOk (p : Poster) (count v : Nat) : Bool :=
  v < count && (v + (count - p.consumer)) % count ≤ (p.head + (count - p.consumer)) % count

/-- The ATTN line (R42). -/
def State.attn (s : State) : Bool :=
  s.ctl.rejected || (s.ctl.settings.attnEnable && s.poster.published != s.poster.consumer)

end Sys2Proof.Machine
end

