-- ==== Sys2Proof/Machine/Reports.lean ====
section
/-! DEFINITION. The bytes the part writes and returns: report entries (section 9.5), the words of the
control page (section 9.3), and delivered and fill headers (section 9.2). -/

namespace Sys2Proof.Machine

/-! ### Encoding of fields -/

/-- `v` in `n` bytes, least significant first. -/
def leBytes : Nat → Nat → List Byte
  | 0, _ => []
  | n + 1, v => BitVec.ofNat 8 v :: leBytes n (v / 256)

/-- One byte. -/
def b1 (v : Nat) : List Byte := leBytes 1 v
/-- `n` bytes of zero. -/
def zeros (n : Nat) : List Byte := List.replicate n 0
/-- A record cut or filled with zeros to `n` bytes (R174: unused bytes are written as 0). -/
def padTo (n : Nat) (e : List Byte) : List Byte := (e ++ zeros n).take n

/-- A flag as a byte. -/
def bBool (v : Bool) : List Byte := b1 v.toNat
/-- A time in 6 bytes (section 9.1). -/
def bTime (t : Nat) : List Byte := leBytes 6 t
/-- An optional time in 6 bytes, all ones when absent (section 9.1). -/
def bTime? : Option Nat → List Byte
  | none => List.replicate 6 0xFF
  | some t => leBytes 6 t
/-- A handle: index, then generation (section 9.1). -/
def bHandle (h : Handle) : List Byte := b1 h.index.val ++ [h.gen]
/-- An optional source, 0xFF for NONE. -/
def bSource? : Option (Fin 48) → List Byte
  | none => [0xFF]
  | some i => b1 i.val
/-- A window list in four bytes, 0xFF beyond its count. -/
def bWindows (ws : List (Fin 32)) : List Byte :=
  (ws.map (fun (w : Fin 32) => BitVec.ofNat 8 w.val) ++ List.replicate 4 0xFF).take 4
/-- A 16-bit word. -/
def bWord16 (w : Word16) : List Byte := leBytes 2 w.toNat
/-- An optional sequence, all ones when absent (R174). -/
def bSeq? : Option Word16 → List Byte
  | none => [0xFF, 0xFF]
  | some q => bWord16 q
/-- A 32-bit word. -/
def bWord32 (w : Word32) : List Byte := leBytes 4 w.toNat

/-! ### Codes (Table 9-1) -/

def OrderReason.code : OrderReason → Nat
  | .malformed => 1 | .range => 2 | .noTariff => 3 | .noSource => 4 | .noWindow => 5 | .tooLate => 6
  | .tableFull => 7 | .conflict => 8 | .noBooking => 9 | .wrongState => 10 | .inUse => 11 | .busy => 12
  | .memory => 13

def RejectReason.code : RejectReason → Nat
  | .check => 1 | .geometry => 2 | .range => 3 | .align => 4 | .overlap => 5 | .memory => 6

def FaultMode.code : FaultMode → Nat
  | .latched => 0 | .recovering => 1

def HealthState.code : HealthState → Nat
  | .disabled => 0 | .absent => 1 | .good => 2 | .suspect => 3 | .failed => 4

/-- The health of a backup, 0xFF where none is named (Table 9-1). -/
def healthCode? : Option HealthState → Nat
  | none => 0xFF
  | some h => h.code

def failureCode? : Option FailureCause → Nat
  | none => 0 | some .silent => 1 | some .impaired => 2

def HealthCause.code : HealthCause → Nat
  | .accepted => 1 | .gap => 2 | .torn => 3 | .check => 4 | .tag => 5 | .length => 6 | .misplaced => 7
  | .silence => 8 | .enable => 9 | .disable => 10 | .clear => 11

def BookingState.code : BookingState → Nat
  | .free => 0 | .pending => 1 | .preroll => 2 | .onAir => 3 | .overrun => 4 | .settling => 5

def EndReason.code : EndReason → Nat
  | .planned => 1 | .released => 2 | .yielded => 3 | .capped => 4 | .cancelled => 5 | .halted => 6

def Protection.code : Protection → Nat
  | .none => 0 | .switch => 1 | .merge => 2

def ForcedLeg.code : ForcedLeg → Nat
  | .auto => 0 | .main => 1 | .backup => 2

def LegName.code : LegName → Nat
  | .main => 1 | .backup => 2

/-- An active leg, 0xFF absent (Table 9-1). -/
def legCode? : Option LegName → Nat
  | none => 0xFF
  | some l => l.code

def LegCause.code : LegCause → Nat
  | .loss => 1 | .restore => 2 | .forced => 3

def LineCheckResult.code : LineCheckResult → Nat
  | .ready => 1 | .degraded => 2 | .notReady => 3

def LineCheckTrigger.code : LineCheckTrigger → Nat
  | .entry => 1 | .health => 2 | .wait => 3 | .start => 4

def StrayKind.code : StrayKind → Nat
  | .boundary => 1 | .span => 2 | .ingressWrite => 3 | .ingressRead => 4 | .deliveryWrite => 5
  | .deliveryRead => 6

/-- Watched word codes of BAD_INDEX; the START word has none (Table 9-1). -/
def WatchedWord.code : WatchedWord → Nat
  | .start => 0 | .orderTail => 1 | .reportConsumer => 2

/-! ### Snapshots -/

/-- The eight void counters in check order (Table 9-11). -/
def VoidCounters.bytes (v : VoidCounters) : List Byte :=
  leBytes 4 v.held ++ leBytes 4 v.torn ++ leBytes 4 v.check ++ leBytes 4 v.tag ++ leBytes 4 v.length ++
    leBytes 4 v.misplaced ++ leBytes 4 v.stale ++ leBytes 4 v.overRate

/-- The source snapshot (Table 9-11). -/
def SourceSnapshot.bytes (x : SourceSnapshot) : List Byte :=
  b1 (x.enabled.toNat + 2 * x.last.isSome.toNat) ++ b1 (x.newest.getD 0xFF) ++ bSeq? x.last ++
    leBytes 4 x.intervalBytes ++ leBytes 4 x.accepted ++ leBytes 4 x.gaps ++ x.voids.bytes

/-- The eight window counters (Table 9-12). -/
def WindowCounters.bytes (c : WindowCounters) : List Byte :=
  leBytes 4 c.delivered ++ leBytes 4 c.unrouted ++ leBytes 4 c.sourceDown ++ leBytes 4 c.noBaseline ++
    leBytes 4 c.underrun ++ leBytes 4 c.void ++ leBytes 4 c.skipped ++ leBytes 4 c.realigns

/-- The window snapshot (Table 9-12). -/
def WindowSnapshot.bytes (x : WindowSnapshot) : List Byte :=
  b1 (x.holder.isSome.toNat + 2 * x.takePending.toNat + 4 * x.last.isSome.toNat) ++ b1 x.shift ++
    (match x.holder with | none => [0xFF, 0xFF] | some h => bHandle h) ++ bSeq? x.last ++
    bWord16 x.dseq ++ b1 x.fillRun ++ b1 0 ++ x.counters.bytes

/-! ### Report bodies, from offset 0x08 -/

/-- The result area of a DONE completion, from 0x18 (Table 9-10). -/
def OrderResult.bytes : OrderResult → List Byte
  | .defineSource src enable tag silence fm strikes recov allowance snap =>
    b1 src.val ++ bBool enable ++ bWord16 tag ++ leBytes 4 silence ++ b1 fm.code ++ b1 strikes ++
      b1 recov ++ b1 0 ++ leBytes 4 allowance ++ snap.bytes
  | .clear src cause => b1 src.val ++ b1 (failureCode? cause)
  | .forceLeg h forced active => bHandle h ++ b1 forced.code ++ b1 (legCode? active)
  | .tariff c before => b1 c.val ++ bBool before
  | .book h reached s e account matchRef =>
    bHandle h ++ b1 reached.code ++ b1 0 ++ bTime s ++ bTime e ++ bWord32 account ++ bWord32 matchRef
  | .extend h st newEnd granted =>
    bHandle h ++ b1 st.code ++ b1 0 ++ bTime newEnd ++ leBytes 4 granted
  | .release h ae => bHandle h ++ zeros 2 ++ bTime ae
  | .cancel h late ct => bHandle h ++ bBool late ++ b1 0 ++ bTime ct
  | .defineWindow w before tag guard snap =>
    b1 w.val ++ bBool before ++ bWord16 tag ++ leBytes 2 guard ++ snap.bytes
  | .setTime previous new => bTime previous ++ bTime new
  | .halt => []

/-- A COMPLETION from 0x08 (Table 9-9). A REFUSED completion writes its result area as 0 (R174). -/
def Completion.bytes (c : Completion) : List Byte :=
  let head (status reason flags : Nat) : List Byte :=
    [c.kind] ++ b1 status ++ b1 reason ++ b1 flags ++ bWord32 c.tag ++ leBytes 2 c.index ++ zeros 6
  match c.outcome with
  | .done clamped result => head 0 0 clamped.toNat ++ result.bytes
  | .refused reason => head 1 reason.code 0

/-- A METER report from 0x08 (Table 9-13). -/
def MeterReport.bytes (m : MeterReport) : List Byte :=
  bWord32 m.tag ++ leBytes 2 m.index ++ bHandle m.handle ++ b1 m.state.code ++
    b1 (m.charges.capped.toNat + 2 * m.openLength.isSome.toNat) ++
    bTime m.startS ++ bTime m.endE ++ bTime? m.actStart ++ bTime m.actEnd ++
    leBytes 4 m.charges.bookedMs ++ leBytes 4 m.charges.overrunMs ++ leBytes 4 m.charges.chargeableMs ++
    leBytes 4 m.charges.qualifyingMs ++ leBytes 2 m.charges.baseMin ++ leBytes 2 m.charges.overMin ++
    leBytes 2 m.charges.creditMin ++ leBytes 6 m.charges.baseCharge ++ leBytes 6 m.charges.overCharge ++
    leBytes 6 m.charges.credit ++ leBytes 6 m.charges.total ++ leBytes 4 m.spans ++ leBytes 4 m.longest ++
    leBytes 4 (m.openLength.getD 0) ++ leBytes 4 m.delivered ++ leBytes 6 m.deliveredBytes ++
    leBytes 4 m.fills ++ leBytes 4 m.skipped ++ leBytes 4 m.legSwitches

/-- The close byte of a settlement (Table 9-14). -/
def Settlement.closeByte (x : Settlement) : Nat :=
  x.reason.code + 8 * x.mode.code + 32 * x.charges.capped.toNat + 64 * x.lateCancel.toNat +
    128 * x.withdrawn.toNat

/-- A SETTLEMENT report from 0x08 (Table 9-14). -/
def Settlement.bytes (x : Settlement) : List Byte :=
  bHandle x.handle ++ b1 x.closeByte ++ b1 x.main.val ++ bSource? x.backup ++ bWindows x.windows ++
    bWord32 x.account ++ bWord32 x.matchRef ++ bTime x.startS ++ bTime x.endE ++ bTime? x.actStart ++
    bTime? x.actEnd ++ bTime? x.cancelTime ++ leBytes 4 x.charges.bookedMs ++
    leBytes 3 x.charges.overrunMs ++ leBytes 3 x.charges.chargeableMs ++
    leBytes 4 x.charges.qualifyingMs ++ leBytes 2 x.charges.baseMin ++ leBytes 1 x.charges.overMin ++
    leBytes 2 x.charges.creditMin ++ leBytes 6 x.charges.baseCharge ++ leBytes 6 x.charges.overCharge ++
    leBytes 6 x.charges.credit ++ leBytes 6 x.charges.total ++ leBytes 4 x.spans ++ leBytes 4 x.longest ++
    leBytes 4 x.delivered ++ leBytes 6 x.deliveredBytes ++ leBytes 4 x.fills ++ leBytes 4 x.skipped ++
    leBytes 4 x.legSwitches

/-- A HEALTH notice from 0x08 (Table 9-15). -/
def HealthNotice.bytes (n : HealthNotice) : List Byte :=
  b1 n.src.val ++ b1 n.before.code ++ b1 n.after.code ++ b1 n.cause.code ++ b1 n.faultMode.code ++
    b1 n.strikes ++ b1 n.goodRun ++ b1 (failureCode? n.failure) ++ n.snapshot.bytes

/-- A LEG notice from 0x08 (Table 9-15). -/
def LegNotice.bytes (n : LegNotice) : List Byte :=
  bHandle n.handle ++ b1 n.before.code ++ b1 n.after.code ++ b1 n.forced.code ++ b1 n.cause.code ++
    b1 n.mainHealth.code ++ b1 (healthCode? n.backupHealth)

/-- A LINE_CHECK notice from 0x08 (Table 9-15). -/
def LineCheckNotice.bytes (n : LineCheckNotice) : List Byte :=
  bHandle n.handle ++ b1 n.result.code ++ b1 n.trigger.code ++ b1 n.mainHealth.code ++
    b1 (healthCode? n.backupHealth)

/-- An ON_AIR notice from 0x08 (Table 9-15). -/
def OnAirNotice.bytes (n : OnAirNotice) : List Byte :=
  bHandle n.handle ++ b1 n.mode.code ++ b1 (legCode? n.active) ++ bBool n.deliverable ++
    b1 n.mainHealth.code ++ b1 (healthCode? n.backupHealth) ++ b1 n.closed ++ bTime n.actStart ++
    bTime n.endE ++ bWindows n.windows

/-- An OVERRUN notice from 0x08 (Table 9-15). -/
def OverrunNotice.bytes (n : OverrunNotice) : List Byte :=
  bHandle n.handle ++ bWindows n.windows ++ zeros 2 ++ bTime n.endE ++ bTime n.capTime

/-- A RATE notice from 0x08 (Table 9-15). -/
def RateNotice.bytes (n : RateNotice) : List Byte :=
  b1 n.src.val ++ zeros 3 ++ leBytes 4 n.overRate ++ leBytes 4 n.total ++ leBytes 4 n.allowance

/-- The six stray counts in stray-kind order (Table 9-15). -/
def StrayCounts.bytes (c : StrayCounts) : List Byte :=
  leBytes 4 c.boundary ++ leBytes 4 c.span ++ leBytes 4 c.ingressWrite ++ leBytes 4 c.ingressRead ++
    leBytes 4 c.deliveryWrite ++ leBytes 4 c.deliveryRead

/-- A STRAY notice from 0x08, with the last offender as it stands when the write begins (R14). -/
def StrayNotice.bytes (n : StrayNotice) (last : Option Offender) : List Byte :=
  b1 n.kind.code ++ b1 n.id.val ++ zeros 6 ++ leBytes 8 n.addr ++ n.counts.bytes ++
    (match last with
      | none => []
      | some o => b1 o.id.val ++ zeros 7 ++ leBytes 8 o.addr)

/-- A BAD_INDEX notice from 0x08 (Table 9-15). -/
def BadIndexNotice.bytes (n : BadIndexNotice) : List Byte :=
  b1 n.word.code ++ zeros 3 ++ bWord32 n.value ++ leBytes 2 n.count ++ leBytes 2 n.head ++
    leBytes 2 n.other

/-- Report kind codes (Table 9-1). -/
def ReportBody.code : ReportBody → Nat
  | .completion _ => 1 | .meter _ => 2 | .settlement _ => 3 | .health _ => 4 | .leg _ => 5
  | .lineCheck _ => 6 | .onAir _ => 7 | .overrun _ => 8 | .rate _ => 9 | .stray _ => 10
  | .badIndex _ => 11

/-- The fields of a report from 0x08. -/
def ReportBody.bytes (last : Option Offender) : ReportBody → List Byte
  | .completion c => c.bytes
  | .meter m => m.bytes
  | .settlement x => x.bytes
  | .health n => n.bytes
  | .leg n => n.bytes
  | .lineCheck n => n.bytes
  | .onAir n => n.bytes
  | .overrun n => n.bytes
  | .rate n => n.bytes
  | .stray n => n.bytes last
  | .badIndex n => n.bytes

/-- A report entry of 128 bytes: the header of Table 9-8 and the body (R174). -/
def Report.bytes (r : Report) (lost : Nat) (last : Option Offender) : List Byte :=
  padTo Config.entryBytes
    (b1 r.body.code ++ leBytes 2 lost ++ leBytes 5 r.created ++ r.body.bytes last)

/-! ### Words of the control page (Tables 9-3 and 9-5) -/

/-- Every byte of a part's own write is enabled. -/
def ownWrite (data : List Byte) : Access := .write (data.map fun b => (b, true))

/-- The activation status word: ACTIVE with the CLAMPED flag, REJECTED with its reason, or PASSIVE, and the
check (R176). -/
def statusBytes (status reason : Nat) (clamped : Bool) (check : Word32) : List Byte :=
  b1 status ++ b1 reason ++ bBool clamped ++ b1 0 ++ bWord32 check

/-! ### Delivered and fill headers (R142, R143, R175) -/

/-- The check word bytes of a header whose first 30 bytes are given. -/
def checkBytes (body : List Byte) : List Byte := bWord16 (xor16 (headerBody body))

/-- The low flags byte of a delivered header: FILL cleared, DISCONTINUITY and BACKUP_LEG as fixed, the
other bits as memory returned them (R142). -/
def deliveredFlags (rw : Rewrite) (old : Byte) : Byte :=
  (old &&& 0xF8#8) ||| (if rw.disc then 2#8 else 0#8) ||| (if rw.backup then 4#8 else 0#8)

/-- The first 30 bytes of a delivered header, over the data memory returned (R142). -/
def deliveredBody (rw : Rewrite) (data : List Byte) : List Byte :=
  bWord16 rw.tag ++ bWord16 rw.seq ++ (data.drop 4).take 2 ++
    ((data.drop 6).take 1).map (deliveredFlags rw) ++ (data.drop 7).take 23

/-- The data a translated header read returns (R9, R142, R175). A read of 32 bytes or more receives the
recomputed check word; a shorter one receives the rewritten header up to its length, and of exactly 31
bytes a free value in byte 0x1E (log 14). -/
def rewriteHeader (rw : Rewrite) (free : Nat) (data : List Byte) : List Byte :=
  let body := deliveredBody rw data
  if Config.headerBytes ≤ data.length then body ++ checkBytes body ++ data.drop Config.headerBytes
  else if data.length = 31 then body ++ [Config.truncatedCheckByte free]
  else body.take data.length

/-- The first 30 bytes of a fill header (R143). -/
def fillBody (tag seq : Word16) (disc : Bool) : List Byte :=
  bWord16 tag ++ bWord16 seq ++ [0, 0] ++ [if disc then 3#8 else 1#8, 0] ++ zeros 22

/-- The data of a fill answer to a read of `n` bytes at slot offset 0 (R143, R175). -/
def fillData (tag seq : Word16) (disc : Bool) (free n : Nat) : List Byte :=
  let body := fillBody tag seq disc
  if Config.headerBytes ≤ n then body ++ checkBytes body ++ zeros (n - Config.headerBytes)
  else if n = 31 then body ++ [Config.truncatedCheckByte free]
  else body.take n

end Sys2Proof.Machine
end

