-- ==== Sys2Proof/Machine/Settle.lean ====
section
/-! DEFINITION. Meters and the settlement arithmetic (chapter 8): feeds, outage spans, the stages of
Table 8-2, the bookings that never aired, and provisional readings. -/

namespace Sys2Proof.Machine

/-! ### The meter record -/

/-- A delivery of a packet of length `len` at distance `d` (R153, R155). -/
def Meter.deliver (m : Meter) (len d : Nat) : Meter :=
  { m with delivered := add32 m.delivered 1, deliveredBytes := add48 m.deliveredBytes len,
           skipped := add32 m.skipped (d - 1) }

/-- A fill of a held window (R153, R155). -/
def Meter.fill (m : Meter) : Meter := { m with fills := add32 m.fills 1 }

/-- A leg switch (R99, R155). -/
def Meter.legSwitch (m : Meter) : Meter := { m with legSwitches := add32 m.legSwitches 1 }

/-- A span opens (R156). -/
def Meter.openAt (m : Meter) (now : Nat) : Meter := { m with openSpan := some now }

/-- The open span, if any, counted as closed at `now` under the threshold `t` (R157). -/
def Meter.closeAt (m : Meter) (now t : Nat) : Meter :=
  match m.openSpan with
  | none => m
  | some o =>
    { m with spans := add32 m.spans 1, longest := max m.longest (now - o),
             qualifying := if t ≤ now - o then m.qualifying + (now - o) else m.qualifying,
             openSpan := none }

/-! ### The stages of Table 8-2 -/

/-- Whole minutes, rounded up (R160). -/
def minutesUp (ms : Nat) : Nat := (ms + 59999) / 60000

/-- A rate for `n` windows: the first at `base`, each further one at the fan rate (R161). -/
def rateEff (base fan n : Nat) : Nat := base + (n - 1) * fan

/-- Stages 1 to 11 for a booking that aired and whose actual end is taken as `ae` (R159 to R162). -/
def chargesAired (b : Booking) (m : Meter) (ae : Nat) : Charges :=
  let n := b.windows.length
  let bookedMs := b.endE - b.startS
  let overrunMs := ae - b.endE
  let chargeableMs := overrunMs - b.tariff.grace
  let baseMin := minutesUp bookedMs
  let overMin := minutesUp chargeableMs
  let creditMin := m.qualifying / 60000
  let baseCharge := baseMin * rateEff b.tariff.base b.tariff.fan n
  let overCharge := overMin * rateEff b.tariff.overrun b.tariff.fan n
  let uncapped := creditMin * b.tariff.credit
  let credit := min uncapped baseCharge
  { bookedMs, overrunMs, chargeableMs, qualifyingMs := m.qualifying, baseMin, overMin, creditMin,
    baseCharge, overCharge, credit, total := baseCharge + overCharge - credit,
    capped := baseCharge < uncapped }

/-- A cancellation at `ct` is late (R120, R163). -/
def Booking.late (b : Booking) (ct : Nat) : Bool := b.startS - ct < b.tariff.lateWindow

/-- The stages of a booking that never aired (R163): the base charge of the whole planned duration for a
late cancellation, and nothing otherwise. -/
def chargesNeverAired (b : Booking) (late : Bool) : Charges :=
  let bookedMs := b.endE - b.startS
  let baseMin := if late then minutesUp bookedMs else 0
  let baseCharge := baseMin * rateEff b.tariff.base b.tariff.fan b.windows.length
  { bookedMs, overrunMs := 0, chargeableMs := 0, qualifyingMs := 0, baseMin, overMin := 0,
    creditMin := 0, baseCharge, overCharge := 0, credit := 0, total := baseCharge, capped := false }

/-- The LATE_CANCEL condition of a closed booking: CANCELLED, and its cancel time late (R163). -/
def Booking.lateCancelled (b : Booking) (reason : EndReason) : Bool :=
  reason == .cancelled && (match b.cancelTime with | none => false | some ct => b.late ct)

/-- The settlement of a booking at its close (R159 to R165), from the entry as steps 1 to 7 of the close
left it. It aired exactly when it has an actual start and end. -/
def settlementOf (b : Booking) (i : Fin 256) (reason : EndReason) (withdrawn : Bool) (now : Nat) :
    Settlement :=
  let charges :=
    match b.actStart, b.actEnd with
    | some _, some ae => chargesAired b b.meter ae
    | _, _ => chargesNeverAired b (b.lateCancelled reason)
  { created := now, handle := { index := i, gen := b.gen }, reason,
    lateCancel := (b.actStart.isNone || b.actEnd.isNone) && b.lateCancelled reason, withdrawn,
    account := b.account, matchRef := b.matchRef, main := b.main, backup := b.backup, mode := b.mode,
    windows := b.windows, startS := b.startS, endE := b.endE, actStart := b.actStart,
    actEnd := b.actEnd, cancelTime := b.cancelTime, charges, spans := b.meter.spans,
    longest := b.meter.longest, delivered := b.meter.delivered,
    deliveredBytes := b.meter.deliveredBytes, fills := b.meter.fills, skipped := b.meter.skipped,
    legSwitches := b.meter.legSwitches }

/-- The METER report of a booking on air (R170, R171): the stages with the actual end taken as house time
now and an open span counted as if it closed now; the meter record is not changed. -/
def meterReading (b : Booking) (i : Fin 256) (tag : Word32) (index now : Nat) : MeterReport :=
  let m := b.meter.closeAt now b.tariff.threshold
  { tag, index, handle := { index := i, gen := b.gen }, state := b.state, startS := b.startS,
    endE := b.endE, actStart := b.actStart, actEnd := now, charges := chargesAired b m now,
    spans := m.spans, longest := m.longest, openLength := b.meter.openSpan.map fun o => now - o,
    delivered := m.delivered, deliveredBytes := m.deliveredBytes, fills := m.fills,
    skipped := m.skipped, legSwitches := m.legSwitches }

end Sys2Proof.Machine
end

