-- ==== Sys2Proof/Machine/Ops.lean ====
section
/-! DEFINITION. The named operations the meanings share: updates of one record, the queues of the memory
port, reports and the hold queue, outage spans and leg rules, health changes, the life of a booking from
pre-roll to close, and the answering of orders. Each takes the state last, so that operations chain. -/

namespace Sys2Proof.Machine

/-! ### Updates of one record -/

def State.modPath (f : PathState → PathState) (s : State) : State := { s with path := f s.path }
def State.modPort (f : Port → Port) (s : State) : State := { s with port := f s.port }
def State.modCtl (f : Control → Control) (s : State) : State := { s with ctl := f s.ctl }
def State.modPoster (f : Poster → Poster) (s : State) : State := { s with poster := f s.poster }
def State.modTime (f : TimeBase → TimeBase) (s : State) : State := { s with time := f s.time }
def State.modSource (i : Fin 48) (f : Source → Source) (s : State) : State :=
  { s with sources := s.sources.set i (f s.sources[i]) }
def State.putHealth (i : Fin 48) (h : Health) (s : State) : State :=
  { s with health := s.health.set i h }
def State.putLeg (i : Fin 256) (l : Option Leg) (s : State) : State :=
  { s with legs := s.legs.set i l }
def State.modBooking (i : Fin 256) (f : Booking → Booking) (s : State) : State :=
  { s with bookings := s.bookings.set i (f s.bookings[i]) }
def State.modMeter (i : Fin 256) (f : Meter → Meter) (s : State) : State :=
  s.modBooking i fun b => { b with meter := f b.meter }
def State.putWindow (w : Fin 32) (x : Window) (s : State) : State :=
  { s with windows := s.windows.set w x }

/-! ### The ports (R1, R16, R17) -/

/-- A response is given on the system port (R1). -/
def Port.answer (id : Fin 16) (tag : Nat) (resp : Resp) (p : Port) : Port :=
  { p with answers := p.answers ++ [{ id, tag, resp }] }

/-- A transaction enters the forwarded stream (R16). -/
def Port.forward (f : Forwarded) (p : Port) : Port := { p with forwarded := p.forwarded ++ [f] }

/-- A block places an entry of own traffic: in the queue if it has room and no block waits, else behind
the blocks that wait (R17). -/
def Port.place (x : OwnTxn) (p : Port) : Port :=
  if p.own.length < Config.ownCapacity && p.ownWaiting.isEmpty then { p with own := p.own ++ [x] }
  else { p with ownWaiting := p.ownWaiting ++ [x] }

/-- The transaction that a memory response with this tag answers (R2). -/
def Port.find (mtag : Nat) (p : Port) : Option Outstanding :=
  p.outstanding.find? fun o => o.mtag == mtag

/-- The transaction with this tag is answered and no longer outstanding (R2). -/
def Port.drop (mtag : Nat) (p : Port) : Port :=
  { p with outstanding := p.outstanding.filter fun o => o.mtag != mtag }

/-- Whether a purpose is the part's own traffic. -/
def Purpose.isOwn : Purpose → Bool
  | .system _ _ _ => false
  | .own _ => true

/-- The own-traffic purpose that a response with this tag is for, if any (R2). -/
def Port.ownPurpose (mtag : Nat) (p : Port) : Option OwnPurpose :=
  match p.find mtag with
  | none => none
  | some o => match o.purpose with
    | .system _ _ _ => none
    | .own x => some x

def State.answer (id : Fin 16) (tag : Nat) (resp : Resp) (s : State) : State :=
  s.modPort (·.answer id tag resp)
def State.forward (f : Forwarded) (s : State) : State := s.modPort (·.forward f)
def State.place (x : OwnTxn) (s : State) : State := s.modPort (·.place x)
def State.dropResponse (mtag : Nat) (s : State) : State := s.modPort (·.drop mtag)

/-! ### The kinds of own traffic (R17) -/

/-- The settings load: one read of the 256-byte settings block (R21). -/
def State.settingsLoad (s : State) : OwnTxn :=
  { purpose := .settingsLoad, addr := s.path.pageBase, access := .read Config.settingsBytes }

/-- An order fetch: one read of the entry at the order head (R28). -/
def State.orderFetch (s : State) : OwnTxn :=
  { purpose := .orderFetch s.ctl.head,
    addr := s.ctl.settings.orderBase + s.ctl.head * Config.entryBytes,
    access := .read Config.entryBytes }

/-- A report write: one write of 128 bytes at the report head (R37). -/
def State.reportWrite (data : List Byte) (s : State) : OwnTxn :=
  { purpose := .reportWrite s.poster.head,
    addr := s.ctl.settings.reportBase + s.poster.head * Config.entryBytes, access := ownWrite data }

/-- The order-head word write (R29, Table 9-3). -/
def State.orderHeadWrite (value : Nat) (s : State) : OwnTxn :=
  { purpose := .orderHead value, addr := s.path.pageBase + 0x208, access := ownWrite (leBytes 4 value) }

/-- The report-head word write (R38, Table 9-3); `final` for the one that publishes the HALT completion. -/
def State.reportHeadWrite (value : Nat) (final : Bool) (s : State) : OwnTxn :=
  { purpose := .reportHead value final, addr := s.path.pageBase + 0x308,
    access := ownWrite (leBytes 4 value) }

/-- The activation status word write (R176, Table 9-3). -/
def State.statusWrite (passive : Bool) (data : List Byte) (s : State) : OwnTxn :=
  { purpose := .status passive, addr := s.path.pageBase + 0x108, access := ownWrite data }

/-! ### The hold queue (R33 to R36) -/

/-- A report joins the queue behind every report there (R33). -/
def Poster.enqueue (r : Report) (p : Poster) : Poster := { p with hold := p.hold ++ [r] }

/-- A dropped notice or a discarded report is counted lost (R39). -/
def Poster.countLost (p : Poster) : Poster := { p with lost := min Config.lostMax (p.lost + 1) }

/-- A notice is offered: accepted at the end of the queue, or dropped and counted lost (R34). -/
def Poster.offer (now : Nat) (body : ReportBody) (p : Poster) : Poster :=
  if p.accepts then p.enqueue { created := now, body } else p.countLost

/-- A notice is offered at house time now (R34, R36). -/
def State.offer (body : ReportBody) (s : State) : State := s.modPoster (·.offer s.now body)

/-- An answer occupies the reserved entry (R33). -/
def Poster.fillReserved (r : Report) (p : Poster) : Poster :=
  { p with hold := p.hold ++ [r], reserved := false }

/-! ### Settlements enter the hold queue (R35, R125, R166) -/

/-- The entry of a settled booking becomes FREE and its held settlement absent (R125). -/
def Booking.freed (b : Booking) : Booking := { b with state := .free, held := none }

/-- A held settlement joins the queue as a SETTLEMENT report, with its creation time (R36, R166). -/
def Poster.settle (held : Option Settlement) (p : Poster) : Poster :=
  match held with
  | none => p
  | some x => p.enqueue { created := x.created, body := .settlement x }

/-- The settlement at the head of the list takes a free hold-queue entry, and its booking entry becomes
FREE; nothing happens while no entry is free or the list is empty (R35, R125, R166). -/
def State.settlementEnter (s : State) : State :=
  match s.settlements with
  | [] => s
  | i :: rest =>
    if 1 ≤ s.poster.free then
      { s.modBooking i Booking.freed with
        settlements := rest, poster := s.poster.settle s.bookings[i].held }
    else s

/-- `settlementEnter` repeated `n` times. -/
def State.settlementsEnter : Nat → State → State
  | 0, s => s
  | n + 1, s => s.settlementEnter.settlementsEnter n

/-- The repetition of R35 and R166: while a free entry exists and the list is not empty. -/
def State.drainSettlements (s : State) : State := s.settlementsEnter s.settlements.length

/-! ### Outage spans and deliverability (R101, R156, R157) -/

/-- The deliverability of a booking on air is compared with its open span, which opens or closes (R101). -/
def State.judge (i : Fin 256) (s : State) : State :=
  let b := s.bookings[i]
  if b.state.onAirOrOverrun then
    if s.deliverable i then
      if b.meter.openSpan.isSome then s.modMeter i fun m => m.closeAt s.now b.tariff.threshold else s
    else if b.meter.openSpan.isNone then s.modMeter i fun m => m.openAt s.now else s
  else s

/-! ### Leg rules (R94, R95, R99) -/

/-- The source of a leg of a booking. -/
def Booking.legSource? (b : Booking) : LegName → Option (Fin 48)
  | .main => some b.main
  | .backup => b.backup

/-- The other leg. -/
def LegName.other : LegName → LegName
  | .main => .backup
  | .backup => .main

/-- The leg's source is named and available. -/
def State.legAvailable (s : State) (b : Booking) (l : LegName) : Bool :=
  s.backupAvailable (b.legSource? l)

/-- The health of an optional backup. -/
def State.healthOf? (s : State) (x : Option (Fin 48)) : Option HealthState := x.map s.healthOf

/-- The active leg of a leg record changes from `before` to `after`: the record, the LEG notice and the
leg switch (R99). -/
def State.switchLeg (i : Fin 256) (l : Leg) (before after : LegName) (cause : LegCause) (s : State) :
    State :=
  let b := s.bookings[i]
  let notice : LegNotice :=
    { handle := s.handleOf i, before, after, forced := l.forced, cause,
      mainHealth := s.healthOf b.main, backupHealth := s.healthOf? b.backup }
  ((s.putLeg i (some { l with active := some after })).offer (.leg notice)).modMeter i Meter.legSwitch

/-- The automatic rule (R94), with the cause a switch gets. -/
def State.autoRule (i : Fin 256) (cause : LegCause) (s : State) : State :=
  match s.legs[i] with
  | none => s
  | some l =>
    match l.forced, l.active with
    | .auto, some a =>
      let b := s.bookings[i]
      if !s.legAvailable b a && s.legAvailable b a.other then
        s.switchLeg i { l with wtrExp := if a.other = .main then none else l.wtrExp } a a.other cause
      else s
    | _, _ => s

/-- The revert rule (R95), with the cause a switch gets. -/
def State.revertRule (i : Fin 256) (cause : LegCause) (s : State) : State :=
  match s.legs[i] with
  | none => s
  | some l =>
    let b := s.bookings[i]
    match l.forced, l.active with
    | .auto, some .backup =>
      if b.revert then
        if s.healthOf b.main = .good then
          if l.wtrExp.isNone then
            if b.wtr = 0 then s.switchLeg i l .backup .main cause
            else s.putLeg i (some { l with wtrExp := some (s.now + b.wtr) })
          else s
        else s.putLeg i (some { l with wtrExp := none })
      else s
    | _, _ => s

/-- The automatic rule and then the revert rule (R94, R95). -/
def State.legRules (i : Fin 256) (autoCause revertCause : LegCause) (s : State) : State :=
  (s.autoRule i autoCause).revertRule i revertCause

/-! ### Line checks (R113, R114) -/

/-- At least one source the booking names is ABSENT (R113). -/
def State.namesAbsent (s : State) (i : Fin 256) : Bool :=
  s.bookings[i].sources.any fun x => s.healthOf x == .absent

/-- The result of a line check (R114). -/
def State.lineResult (s : State) (b : Booking) : LineCheckResult :=
  if s.available b.main then .ready
  else if s.backupAvailable b.backup then .degraded
  else .notReady

/-- A line check ends: DONE, its wait cancelled, and one LINE_CHECK notice (R114). -/
def State.endLineCheck (i : Fin 256) (trigger : LineCheckTrigger) (s : State) : State :=
  let b := s.bookings[i]
  (s.modBooking i fun b => { b with lineCheck := .done, lineExp := none }).offer
    (.lineCheck
      { handle := s.handleOf i, result := s.lineResult b, trigger,
        mainHealth := s.healthOf b.main, backupHealth := s.healthOf? b.backup })

/-- The booking table is told of a health change: a waiting line check ends when no named source is ABSENT
any more (R88 step 3, R113). -/
def State.lineCheckTold (i : Fin 256) (s : State) : State :=
  if s.bookings[i].lineCheck = .waiting ∧ !s.namesAbsent i then s.endLineCheck i .health else s

/-! ### Health changes (R88, R91) -/

/-- The snapshot of a source's counters (R76, Table 9-11). -/
def Source.snapshot (r : Source) : SourceSnapshot :=
  { enabled := r.enabled, newest := r.newest, last := r.last, intervalBytes := r.intervalBytes,
    accepted := r.accepted, gaps := r.gaps, voids := r.voids }

/-- Step 2 of R88: the HEALTH notice (R91), from the records as the change left them. -/
def State.healthNotice (s : State) (src : Fin 48) (before : HealthState) (cause : HealthCause) :
    HealthNotice :=
  let h := s.health[src]
  let r := s.sources[src]
  { src, before, after := h.state, cause, faultMode := r.faultMode, strikes := h.strikes,
    goodRun := h.goodRun, failure := h.cause, snapshot := r.snapshot }

/-- Steps 2 to 5 of R88: the HEALTH notice, the line checks, the leg rules and the deliverability of the
bookings that name the source, each in ascending order of entry (log 15 for the line checks). -/
def State.healthChanged (src : Fin 48) (before : HealthState) (cause : HealthCause) (s : State) : State :=
  let named := s.bookingsWhere fun b => b.names src
  let s2 := s.offer (.health (s.healthNotice src before cause))
  let s3 := named.foldl (fun s i => s.lineCheckTold i) s2
  let s4 := named.foldl (fun s i => s.legRules i .loss .restore) s3
  named.foldl (fun s i => s.judge i) s4

/-- A health record takes new values; a change of its state completes the steps of R88 with the cause. -/
def State.setHealth (src : Fin 48) (h : Health) (cause : HealthCause) (s : State) : State :=
  let before := s.health[src].state
  let s1 := s.putHealth src h
  if before = h.state then s1 else s1.healthChanged src before cause

/-! ### Windows: routing and release (R130, R131) -/

/-- What routing and release have in common: the bindings, the last delivered sequence, the discontinuity
mark and the consecutive fill count are cleared. -/
def Window.handed (w : Window) (holder : Option Handle) (takePending : Bool) : Window :=
  { w with holder, takePending, bindings := w.bindings.map (fun _ => Binding.none), last := none,
           disc := false, fillRun := 0 }

/-- Each window of the list is handed over. -/
def handWindows (holder : Option Handle) (takePending : Bool) (ws : List (Fin 32))
    (v : Vector Window 32) : Vector Window 32 :=
  ws.foldl (fun v (w : Fin 32) => v.set w (v[w].handed holder takePending)) v

/-- The windows of a list are routed to a booking, in list order (R130). -/
def State.routeWindows (h : Handle) (ws : List (Fin 32)) (s : State) : State :=
  { s with windows := handWindows (some h) true ws s.windows }

/-- The windows of a list are released (R131). -/
def State.releaseWindows (ws : List (Fin 32)) (s : State) : State :=
  { s with windows := handWindows none false ws s.windows }

/-! ### The calendar and the use counts (R106, R108) -/

/-- An item is inserted in its place by S (R106). -/
def insertItem (x : CalItem) : List CalItem → List CalItem
  | [] => [x]
  | y :: ys => if x.startS ≤ y.startS then x :: y :: ys else y :: insertItem x ys

/-- An item of the booking is inserted into the list of each window (R106). -/
def insertItems (x : CalItem) (ws : List (Fin 32)) (v : Vector (List CalItem) 32) :
    Vector (List CalItem) 32 :=
  ws.foldl (fun v (w : Fin 32) => v.set w (insertItem x v[w])) v

/-- The booking's items are removed from every list (R106). -/
def removeItems (i : Fin 256) (v : Vector (List CalItem) 32) : Vector (List CalItem) 32 :=
  v.map fun l => l.filter fun x => x.booking != i

/-- The booking's items take a new E (R106). -/
def moveItems (i : Fin 256) (newEnd : Nat) (v : Vector (List CalItem) 32) : Vector (List CalItem) 32 :=
  v.map fun l => l.map fun x => if x.booking = i then { x with endE := newEnd } else x

/-- The use counts of the sources are raised by one each (R108). -/
def raiseUse (xs : List (Fin 48)) (v : Vector Nat 48) : Vector Nat 48 :=
  xs.foldl (fun v (x : Fin 48) => v.set x (v[x] + 1)) v

/-- The use counts of the sources are lowered by one each (R108). -/
def lowerUse (xs : List (Fin 48)) (v : Vector Nat 48) : Vector Nat 48 :=
  xs.foldl (fun v (x : Fin 48) => v.set x (v[x] - 1)) v

/-! ### The close (R124) -/

/-- Steps 1, 2, 5 and 8 of the close at the entry: end reason, actual end, expiries and line check, the open
span, and the held settlement in SETTLING. -/
def Booking.closed (b : Booking) (i : Fin 256) (reason : EndReason) (withdrawn : Bool) (now : Nat) :
    Booking :=
  let b1 : Booking :=
    { b with endReason := some reason,
             actEnd := if b.state.onAirOrOverrun then some now else b.actEnd,
             lineCheck := if b.lineCheck = .waiting then .done else b.lineCheck,
             prerollExp := none, startExp := none, endExp := none, capExp := none, lineExp := none,
             meter := b.meter.closeAt now b.tariff.threshold }
  { b1 with held := some (settlementOf b1 i reason withdrawn now), state := .settling }

/-- The close of a booking (R124), whose settlement then takes a free hold-queue entry if there is one
(R166). -/
def State.closeBooking (i : Fin 256) (reason : EndReason) (withdrawn : Bool) (s : State) : State :=
  let b := s.bookings[i]
  State.drainSettlements
    { s with
      bookings := s.bookings.set i (b.closed i reason withdrawn s.now)
      calendar := removeItems i s.calendar
      windows := if b.state.onAirOrOverrun then handWindows none false b.windows s.windows else s.windows
      useCounts := if b.state.holdsSources then lowerUse b.sources s.useCounts else s.useCounts
      legs := s.legs.set i none
      settlements := s.settlements ++ [i] }

/-- A close with end reason CANCELLED: the cancel time is recorded by the event that causes it (R112,
R120, R124). -/
def State.cancelBooking (i : Fin 256) (withdrawn : Bool) (s : State) : State :=
  (s.modBooking i fun b => { b with cancelTime := some s.now }).closeBooking i .cancelled withdrawn

/-! ### Pre-roll, start and air (R112 to R116) -/

/-- The use counts of a booking's sources are raised and its leg record is created in SWITCH mode (R92,
R108). -/
def State.claim (i : Fin 256) (s : State) : State :=
  let b := s.bookings[i]
  { s with
    useCounts := raiseUse b.sources s.useCounts
    legs := if b.mode = .switch then
      s.legs.set i (some { active := none, forced := .auto, wtrExp := none }) else s.legs }

/-- The line check begins (R113). -/
def State.beginLineCheck (i : Fin 256) (s : State) : State :=
  if !s.namesAbsent i || s.ctl.settings.lineWait == 0 then s.endLineCheck i .entry
  else s.modBooking i fun b =>
    { b with lineCheck := .waiting, lineExp := some (s.now + s.ctl.settings.lineWait) }

/-- PREROLL entry (R112). -/
def State.enterPreroll (i : Fin 256) (s : State) : State :=
  ((s.claim i).modBooking i fun b =>
    { b with state := .preroll, prerollExp := none, startExp := some b.startS }).beginLineCheck i

/-- The other bookings that hold a window of booking `i`, in ascending order of entry (R115). -/
def State.holdersFor (s : State) (i : Fin 256) : List (Fin 256) :=
  (List.finRange 256).filter fun a =>
    a != i && s.bookings[i].windows.any fun w =>
      match s.windows[w].holder with
      | none => false
      | some h => h.index == a

/-- The end reason of a holder that a start closes (R115). -/
def yieldReason (a : Booking) : EndReason :=
  if a.state = .overrun ∨ (a.holdOn ∧ 0 < a.maxOver) then .yielded else .planned

/-- The start first closes the holders of the booking's windows (R115). -/
def State.clearWindows (i : Fin 256) (s : State) : State :=
  (s.holdersFor i).foldl (fun s a => s.closeBooking a (yieldReason s.bookings[a]) false) s

/-- The initial active leg (R93). -/
def State.initialLeg (s : State) (i : Fin 256) : LegName :=
  let b := s.bookings[i]
  match s.forcedOf i with
  | .main => .main
  | .backup => .backup
  | .auto =>
    if s.available b.main then .main else if s.backupAvailable b.backup then .backup else .main

/-- Step 5 of R116: a SWITCH booking's leg record takes its initial active leg (R93). -/
def State.setInitialLeg (i : Fin 256) (s : State) : State :=
  match s.bookings[i].mode, s.legs[i] with
  | .switch, some l => s.putLeg i (some { l with active := some (s.initialLeg i), wtrExp := none })
  | _, _ => s

/-- The ON_AIR notice (R116 step 7). -/
def State.onAirNotice (s : State) (i : Fin 256) (closed : Nat) : OnAirNotice :=
  let b := s.bookings[i]
  { handle := s.handleOf i, mode := b.mode,
    active := if b.mode = .switch then s.activeOf i else none, deliverable := s.deliverable i,
    mainHealth := s.healthOf b.main, backupHealth := s.healthOf? b.backup, closed,
    actStart := s.now, endE := b.endE, windows := b.windows }

/-- ON_AIR entry (R116), once the windows are clear. `fresh` when the booking has not passed through
PREROLL; `closed` counts the bookings closed at this start. -/
def State.enterOnAir (i : Fin 256) (fresh : Bool) (closed : Nat) (s : State) : State :=
  let s1 := if fresh then s.claim i else s
  let s2 := if s1.bookings[i].lineCheck = .done then s1 else s1.endLineCheck i .start
  let s3 := s2.modBooking i fun b =>
    { b with state := .onAir, actStart := some s2.now, startExp := none }
  let s4 := s3.routeWindows (s3.handleOf i) s3.bookings[i].windows
  let s5 := s4.setInitialLeg i
  let s6 := s5.judge i
  let s7 := s6.offer (.onAir (s6.onAirNotice i closed))
  s7.modBooking i fun b => { b with endExp := some b.endE }

/-- The start of a booking: its windows are cleared, then it enters ON_AIR (R115, R116). -/
def State.startBooking (i : Fin 256) (fresh : Bool) (s : State) : State :=
  (s.clearWindows i).enterOnAir i fresh (s.holdersFor i).length

/-! ### Orders: arrival and answer (R28 to R33) -/

/-- The ring index of the order fetch that a response with this tag answers: the processor is FETCHING,
holds its reserved entry, and the tag is the fetch's (R2, R28; log 10). -/
def State.fetchIndex (mtag : Nat) (s : State) : Option Nat :=
  match s.port.ownPurpose mtag with
  | some (.orderFetch index) => if s.ctl.fetching && s.poster.reserved then some index else none
  | _ => none

/-- The internal head advances, an order-head write is placed and the processor becomes IDLE (R29). -/
def State.advanceHead (s : State) : State :=
  let head := (s.ctl.head + 1) % s.ctl.settings.orderCount
  (s.modCtl fun c => { c with head, fetching := false }).place (s.orderHeadWrite head)

/-- The report that answers the order occupies the reserved entry, and the head advances (R29, R33). -/
def State.answerOrder (body : ReportBody) (s : State) : State :=
  (s.modPoster (·.fillReserved { created := s.now, body })).advanceHead

/-- What the execution of an order yields: a completion, or the METER report (R31). -/
inductive OrderReply where
  | completion (o : OrderOutcome)
  | meter (m : MeterReport)
deriving DecidableEq, Repr

/-- The report that answers the order of an entry fetched at a ring index (R31). -/
def OrderReply.report (entry : List Byte) (index : Nat) : OrderReply → ReportBody
  | .completion o => .completion { kind := byteAt entry 0, tag := orderTag entry, index, outcome := o }
  | .meter m => .meter m

/-- A refused order makes no change (R31). -/
def refuseOrder (r : OrderReason) (s : State) : State × OrderReply := (s, .completion (.refused r))

/-- An order that is carried out, with its results. -/
def doneOrder (clamped : Bool) (r : OrderResult) (s : State) : State × OrderReply :=
  (s, .completion (.done clamped r))

/-- The OKAY data of an order fetch carries an order of kind `code`: the shape check (R32), the execution
`body`, which is given the ring index, and the answer (R29). A response that is no order fetch's, or whose
entry is of another kind, is not this command's event (log 10). -/
def State.runOrder (code mtag : Nat) (entry : List Byte) (body : Nat → State → State × OrderReply)
    (s : State) : State :=
  match s.fetchIndex mtag with
  | none => s
  | some index =>
    if orderKind entry = code then
      let s1 := s.dropResponse mtag
      let r := if shapeOk code entry then body index s1 else refuseOrder .malformed s1
      r.1.answerOrder (r.2.report entry index)
    else s

/-- A handle matches the current generation of its entry (R105). -/
def State.handleCurrent (s : State) (h : Handle) : Bool := s.bookings[h.index].gen == h.gen

end Sys2Proof.Machine
end

