-- ==== Sys2Proof/Machine/Bookings.lean ====
section
/-! DEFINITION. The booking table's orders and expiries (chapter 6): TARIFF, BOOK, EXTEND, RELEASE, CANCEL,
METER, and the five expiries of a booking entry. -/

namespace Sys2Proof.Machine

/-! ### TARIFF (R103) -/

/-- A tariff class takes new fields. -/
def State.putTariff (c : Fin 16) (t : Tariff) (s : State) : State :=
  { s with tariffs := s.tariffs.set c t }

/-- The execution of TARIFF (R103). -/
def tariffOrder (entry : List Byte) (_index : Nat) (s : State) : State × OrderReply :=
  match tariffOrder? entry with
  | none => refuseOrder .range s
  | some (c, t) => doneOrder false (.tariff c s.tariffs[c].defined) (s.putTariff c t)

/-- TARIFF (R103). -/
def execTariff (mtag : Nat) (entry : List Byte) (s : State) : Host.Outcome State Fault Refusal :=
  .next (s.runOrder 4 mtag entry (tariffOrder entry))

/-! ### BOOK (R109 to R111) -/

/-- The sources a BOOK names. -/
def BookOrder.sources (o : BookOrder) : List (Fin 48) := o.main :: o.backup.toList

/-- The effective start (R111). -/
def BookOrder.effectiveStart (o : BookOrder) (now : Nat) : Nat := max o.startS now

/-- The interval overlaps an item of a window's list (R107, R110). -/
def State.conflicts (s : State) (o : BookOrder) : Bool :=
  o.windows.any fun w =>
    s.calendar[w].any fun x => overlaps (o.effectiveStart s.now) o.endE x.startS x.endE

/-- The FREE entry of lowest index (R111). -/
def State.freeEntry (s : State) : Option (Fin 256) :=
  (List.finRange 256).find? fun i => s.bookings[i].state == .free

/-- The checks of R110 in order: the refusal, or the entry to take. -/
def State.bookCheck (s : State) (o : BookOrder) : Except OrderReason (Fin 256) :=
  if !s.tariffs[o.cls].defined then .error .noTariff
  else if !o.sources.all (fun x => s.sources[x].enabled) then .error .noSource
  else if !o.windows.all (fun w => s.windows[w].defined) then .error .noWindow
  else if o.endE ≤ s.now then .error .tooLate
  else match s.freeEntry with
    | none => .error .tableFull
    | some i => if s.conflicts o then .error .conflict else .ok i

/-- Steps 1 to 3 of the acceptance at the entry (R111), in PENDING with no expiry armed. -/
def Booking.accepted (b : Booking) (o : BookOrder) (start : Nat) (t : Tariff) : Booking :=
  { Booking.reset (b.gen + 1) with
    state := .pending, account := o.account, matchRef := o.matchRef, main := o.main,
    backup := o.backup, mode := o.mode, revert := o.revert, wtr := o.wtr, windows := o.windows,
    startS := start, endE := o.endE, holdOn := o.holdOn, maxOver := o.maxOver, tariff := t }

/-- Steps 1 to 4 of the acceptance (R111): the entry and its calendar items. -/
def State.recordBooking (i : Fin 256) (o : BookOrder) (s : State) : State :=
  let start := o.effectiveStart s.now
  { s.modBooking i (fun b => b.accepted o start s.tariffs[o.cls]) with
    calendar := insertItems { booking := i, startS := start, endE := o.endE } o.windows s.calendar }

/-- Step 5 of the acceptance (R111): started at once, PREROLL, or PENDING with its pre-roll expiry. -/
def State.firstState (i : Fin 256) (s : State) : State :=
  let start := s.bookings[i].startS
  let preroll := s.ctl.settings.preroll
  if start = s.now then s.startBooking i true
  else if start ≤ s.now + preroll then s.enterPreroll i
  else s.modBooking i fun b => { b with prerollExp := some (start - preroll) }

/-- The result of a BOOK (R111), from the state after step 5. -/
def State.bookResult (s : State) (i : Fin 256) : OrderResult :=
  let b := s.bookings[i]
  .book (s.handleOf i) b.state b.startS b.endE b.account b.matchRef

/-- The execution of BOOK (R109 to R111). -/
def bookOrder (entry : List Byte) (_index : Nat) (s : State) : State × OrderReply :=
  match bookOrder? entry with
  | none => refuseOrder .range s
  | some o =>
    match s.bookCheck o with
    | .error r => refuseOrder r s
    | .ok i =>
      let s1 := (s.recordBooking i o).firstState i
      doneOrder (o.startS < s.now) (s1.bookResult i) s1

/-- BOOK (R111). -/
def execBook (mtag : Nat) (entry : List Byte) (s : State) : Host.Outcome State Fault Refusal :=
  .next (s.runOrder 5 mtag entry (bookOrder entry))

/-! ### EXTEND (R121, R122) -/

/-- The least of a list of numbers, if it has any. -/
def leastOf : List Nat → Option Nat
  | [] => none
  | x :: xs => some (xs.foldl min x)

/-- The second bound of R121: the earliest start at or after E of another booking on a window of this
one. -/
def State.nextStart (s : State) (i : Fin 256) : Option Nat :=
  let b := s.bookings[i]
  leastOf (b.windows.flatMap fun w =>
    (s.calendar[w].filter fun x => x.booking != i && b.endE ≤ x.startS).map (·.startS))

/-- The granted end (R121). -/
def State.grantedEnd (s : State) (i : Fin 256) (x : Nat) : Nat :=
  let b := s.bookings[i]
  let own := min (b.endE + x) (b.startS + Config.plannedMax)
  match s.nextStart i with
  | none => own
  | some t => min own t

/-- The refusal of an EXTEND that grants nothing (R121). -/
def State.extendRefusal (s : State) (i : Fin 256) : OrderReason :=
  match s.nextStart i with
  | some t => if t ≤ s.bookings[i].endE then .conflict else .range
  | none => .range

/-- The entry takes a new planned end (R122). -/
def Booking.extended (b : Booking) (newEnd now : Nat) : Booking :=
  let b1 := { b with endE := newEnd }
  match b.state with
  | .onAir => { b1 with endExp := some newEnd }
  | .overrun =>
    if now < newEnd then { b1 with state := .onAir, capExp := none, endExp := some newEnd }
    else { b1 with capExp := some (newEnd + b.maxOver) }
  | .pending | .preroll | .free | .settling => b1

/-- The booking and its calendar items take the new end (R122). -/
def State.extendBooking (i : Fin 256) (newEnd : Nat) (s : State) : State :=
  { s.modBooking i (·.extended newEnd s.now) with calendar := moveItems i newEnd s.calendar }

/-- The execution of EXTEND (R121, R122). -/
def extendOrder (entry : List Byte) (_index : Nat) (s : State) : State × OrderReply :=
  let h := orderHandle entry
  let x := field entry 0x0C 4
  if x = 0 ∨ Config.plannedMax < x then refuseOrder .range s
  else if !s.handleCurrent h then refuseOrder .noBooking s
  else if !s.bookings[h.index].state.live then refuseOrder .wrongState s
  else
    let old := s.bookings[h.index].endE
    let newEnd := s.grantedEnd h.index x
    if newEnd ≤ old then refuseOrder (s.extendRefusal h.index) s
    else
      let s1 := s.extendBooking h.index newEnd
      doneOrder (newEnd < old + x) (.extend h s1.bookings[h.index].state newEnd (newEnd - old)) s1

/-- EXTEND (R121). -/
def execExtend (mtag : Nat) (entry : List Byte) (s : State) : Host.Outcome State Fault Refusal :=
  .next (s.runOrder 6 mtag entry (extendOrder entry))

/-! ### RELEASE, CANCEL, METER (R119, R120, R123) -/

/-- The execution of RELEASE (R119). -/
def releaseOrder (entry : List Byte) (_index : Nat) (s : State) : State × OrderReply :=
  let h := orderHandle entry
  if !s.handleCurrent h then refuseOrder .noBooking s
  else if s.bookings[h.index].state.onAirOrOverrun then
    doneOrder false (.release h s.now) (s.closeBooking h.index .released false)
  else refuseOrder .wrongState s

/-- RELEASE (R119). -/
def execRelease (mtag : Nat) (entry : List Byte) (s : State) : Host.Outcome State Fault Refusal :=
  .next (s.runOrder 7 mtag entry (releaseOrder entry))

/-- The execution of CANCEL (R120). -/
def cancelOrder (entry : List Byte) (_index : Nat) (s : State) : State × OrderReply :=
  let h := orderHandle entry
  if !s.handleCurrent h then refuseOrder .noBooking s
  else match s.bookings[h.index].state with
    | .pending | .preroll =>
      doneOrder false (.cancel h (s.bookings[h.index].late s.now) s.now) (s.cancelBooking h.index false)
    | .free | .onAir | .overrun | .settling => refuseOrder .wrongState s

/-- CANCEL (R120). -/
def execCancel (mtag : Nat) (entry : List Byte) (s : State) : Host.Outcome State Fault Refusal :=
  .next (s.runOrder 8 mtag entry (cancelOrder entry))

/-- The execution of METER (R123): answered by a METER report, with no change of state. -/
def meterOrder (entry : List Byte) (index : Nat) (s : State) : State × OrderReply :=
  let h := orderHandle entry
  if !s.handleCurrent h then refuseOrder .noBooking s
  else if s.bookings[h.index].state.onAirOrOverrun then
    (s, .meter (meterReading s.bookings[h.index] h.index (orderTag entry) index s.now))
  else refuseOrder .wrongState s

/-- METER (R123). -/
def execMeter (mtag : Nat) (entry : List Byte) (s : State) : Host.Outcome State Fault Refusal :=
  .next (s.runOrder 9 mtag entry (meterOrder entry))

/-! ### The expiries of a booking entry -/

/-- A source the booking names is not enabled (R112). -/
def State.namesDisabled (s : State) (i : Fin 256) : Bool :=
  s.bookings[i].sources.any fun x => !s.sources[x].enabled

/-- The pre-roll expiry is taken, if it is due (R112): PREROLL, or a close CANCELLED with the WITHDRAWN mark
(R164). -/
def State.takePreroll (i : Fin 256) (s : State) : State :=
  if s.bookings[i].state = .pending ∧ dueAt s.now s.bookings[i].prerollExp then
    if s.namesDisabled i then s.cancelBooking i true else s.enterPreroll i
  else s

/-- PREROLL_EXPIRY (R112). -/
def execPrerollExpiry (i : Fin 256) (s : State) : Host.Outcome State Fault Refusal :=
  .next (s.takePreroll i)

/-- The line-check wait is taken, if it is due (R113). -/
def State.takeLineWait (i : Fin 256) (s : State) : State :=
  if s.bookings[i].lineCheck = .waiting ∧ dueAt s.now s.bookings[i].lineExp then s.endLineCheck i .wait
  else s

/-- LINE_CHECK_WAIT_EXPIRY (R113). -/
def execLineCheckWaitExpiry (i : Fin 256) (s : State) : Host.Outcome State Fault Refusal :=
  .next (s.takeLineWait i)

/-- The start expiry is taken, if it is due (R115, R116). -/
def State.takeStart (i : Fin 256) (s : State) : State :=
  if s.bookings[i].state = .preroll ∧ dueAt s.now s.bookings[i].startExp then s.startBooking i false else s

/-- START_EXPIRY (R115, R116). -/
def execStartExpiry (i : Fin 256) (s : State) : Host.Outcome State Fault Refusal :=
  .next (s.takeStart i)

/-- The booking enters OVERRUN (R117). -/
def State.enterOverrun (i : Fin 256) (s : State) : State :=
  let b := s.bookings[i]
  (s.modBooking i fun b =>
    { b with state := .overrun, endExp := none, capExp := some (b.endE + b.maxOver) }).offer
    (.overrun
      { handle := s.handleOf i, windows := b.windows, endE := b.endE, capTime := b.endE + b.maxOver })

/-- The end expiry is taken, if it is due (R117). -/
def State.takeEnd (i : Fin 256) (s : State) : State :=
  if s.bookings[i].state = .onAir ∧ dueAt s.now s.bookings[i].endExp then
    if s.bookings[i].holdOn ∧ 0 < s.bookings[i].maxOver then s.enterOverrun i
    else s.closeBooking i .planned false
  else s

/-- END_EXPIRY (R117). -/
def execEndExpiry (i : Fin 256) (s : State) : Host.Outcome State Fault Refusal :=
  .next (s.takeEnd i)

/-- The overrun cap expiry is taken, if it is due (R118). -/
def State.takeCap (i : Fin 256) (s : State) : State :=
  if s.bookings[i].state = .overrun ∧ dueAt s.now s.bookings[i].capExp then s.closeBooking i .capped false
  else s

/-- OVERRUN_CAP_EXPIRY (R118). -/
def execOverrunCapExpiry (i : Fin 256) (s : State) : Host.Outcome State Fault Refusal :=
  .next (s.takeCap i)

end Sys2Proof.Machine
end

