-- ==== Sys2Proof/Machine/Legs.lean ====
section
/-! DEFINITION. FORCE_LEG (R97, R98) and the wait-to-restore expiry (R96). -/

namespace Sys2Proof.Machine

/-- FORCE_LEG with MAIN or BACKUP (R98): pinned, the wait cancelled, and the active leg moved if it is present
and differs. -/
def State.pinLeg (i : Fin 256) (l : Leg) (forced : ForcedLeg) (leg : LegName) (s : State) : State :=
  let l1 := { l with forced, wtrExp := none }
  match l.active with
  | some a => if a = leg then s.putLeg i (some l1) else s.switchLeg i l1 a leg .forced
  | none => s.putLeg i (some l1)

/-- FORCE_LEG on a leg record (R98). Without a record there is nothing to force (log 20). -/
def State.forceLeg (i : Fin 256) (forced : ForcedLeg) (s : State) : State :=
  match s.legs[i] with
  | none => s
  | some l =>
    let s1 := match forced with
      | .main => s.pinLeg i l .main .main
      | .backup => s.pinLeg i l .backup .backup
      | .auto => (s.putLeg i (some { l with forced := .auto })).legRules i .forced .forced
    s1.judge i

/-- The execution of FORCE_LEG (R97, R98). -/
def forceLegOrder (entry : List Byte) (_index : Nat) (s : State) : State × OrderReply :=
  let h := orderHandle entry
  match forcedLegOf? (field entry 0x0A 1) with
  | none => refuseOrder .range s
  | some forced =>
    if !s.handleCurrent h then refuseOrder .noBooking s
    else if s.bookings[h.index].mode = .switch ∧ s.bookings[h.index].state.holdsSources then
      let s1 := s.forceLeg h.index forced
      doneOrder false (.forceLeg h forced (s1.activeOf h.index)) s1
    else refuseOrder .wrongState s

/-- FORCE_LEG (R97). -/
def execForceLeg (mtag : Nat) (entry : List Byte) (s : State) : Host.Outcome State Fault Refusal :=
  .next (s.runOrder 3 mtag entry (forceLegOrder entry))

/-- The wait-to-restore expiry of a leg record (R96). -/
def State.restoreLeg (i : Fin 256) (l : Leg) (s : State) : State :=
  let l1 := { l with wtrExp := none }
  match l.active with
  | some a => s.switchLeg i l1 a .main .restore
  | none => s.putLeg i (some l1)

/-- The wait-to-restore expiry of a booking's leg record is taken, if it is due (R96). -/
def State.takeRestore (i : Fin 256) (s : State) : State :=
  match s.legs[i] with
  | none => s
  | some l => if dueAt s.now l.wtrExp then s.restoreLeg i l else s

/-- WAIT_TO_RESTORE_EXPIRY (R96). -/
def execWaitToRestoreExpiry (i : Fin 256) (s : State) : Host.Outcome State Fault Refusal :=
  .next (s.takeRestore i)

end Sys2Proof.Machine
end

