-- ==== Sys2Proof/Machine/Arrival.lean ====
section
/-! DEFINITION. The arrival checker (chapter 4) and the health machine (section 5.2): the judging of an
arrival, its result at the source record and slot table, and the health record after each event. -/

namespace Sys2Proof.Machine

/-! ### The checks (Table 4-2) -/

/-- The judgement of an arrival (R63): accepted with its sequence and length, or voided with one cause. -/
inductive Verdict where
  | accepted (seq : Word16) (len : Nat)
  | voided (cause : VoidCause)
deriving DecidableEq, Repr

/-- The eight checks in order (R63 to R68); `hdr` is the header of a commit and `none` for a torn
commit. -/
def judgeArrival (g : Settings) (h : Health) (r : Source) (k : Nat) (hdr : Option (List Byte)) :
    Verdict :=
  if h.state = .failed ∧ r.faultMode = .latched then .voided .held
  else match hdr with
    | none => .voided .torn
    | some w =>
      if !headerCheckOk w then .voided .check
      else if headerTag w ≠ r.tag then .voided .tag
      else if headerLength w < g.lmin ∨ g.z < headerLength w + 32 then .voided .length
      else if (headerSeq w).toNat % g.d ≠ k then .voided .misplaced
      else if r.last.isSome ∧ !newerThan (headerSeq w) r.last then .voided .stale
      else if r.allowance ≠ 0 ∧ r.allowance < r.intervalBytes + headerLength w then .voided .overRate
      else .accepted (headerSeq w) (headerLength w)

/-! ### The result at the source record (R69 to R72) -/

/-- A void counter raised by one (R72). -/
def VoidCounters.bump (v : VoidCounters) : VoidCause → VoidCounters
  | .held => { v with held := add32 v.held 1 }
  | .torn => { v with torn := add32 v.torn 1 }
  | .check => { v with check := add32 v.check 1 }
  | .tag => { v with tag := add32 v.tag 1 }
  | .length => { v with length := add32 v.length 1 }
  | .misplaced => { v with misplaced := add32 v.misplaced 1 }
  | .stale => { v with stale := add32 v.stale 1 }
  | .overRate => { v with overRate := add32 v.overRate 1 }

/-- Slot entry `k` becomes valid and every other entry newer than `q` becomes invalid (R69, R71). -/
def ageSlots (slots : List (Option SlotEntry)) (k : Nat) (q : Word16) (len : Nat) :
    List (Option SlotEntry) :=
  (slots.map fun e => match e with
    | none => none
    | some x => if newer x.seq q then none else some x).set k (some { seq := q, len })

/-- The distance from the baseline to an accepted sequence, 1 where it sets the baseline (R70). -/
def Source.gapOf (r : Source) (q : Word16) : Nat := distance q r.last

/-- The source record after an accepted arrival (R69, R70, R71). -/
def Source.accept (r : Source) (k : Nat) (q : Word16) (len : Nat) : Source :=
  { r with slots := ageSlots r.slots k q len, last := some q, newest := some k,
           intervalBytes := add32 r.intervalBytes len, accepted := add32 r.accepted 1,
           gaps := add32 r.gaps (r.gapOf q - 1) }

/-- The source record after a voided arrival (R72). -/
def Source.void (r : Source) (k : Nat) (c : VoidCause) : Source :=
  { r with slots := r.slots.set k none, voids := r.voids.bump c,
           overRate := if c = .overRate then add32 r.overRate 1 else r.overRate }

/-- The baseline and newest slot become absent and the slot table wholly invalid (R78, R80). -/
def Source.clearBaseline (r : Source) : Source :=
  { r with last := none, newest := none, slots := r.slots.map (fun _ => none) }

/-- The interval figures become 0 (R74, R78). -/
def Source.clearInterval (r : Source) : Source := { r with intervalBytes := 0, overRate := 0 }

/-! ### Arrival events (R73) -/

/-- The classes of an arrival event (R73). -/
inductive ArrivalClass where
  | accepted | acceptedGap | voidImpairing | voidNeutral
deriving DecidableEq, Repr

/-- The class of a verdict (R73). -/
def arrivalClass (r : Source) : Verdict → ArrivalClass
  | .accepted q _ => if 1 < r.gapOf q then .acceptedGap else .accepted
  | .voided c => match c with
    | .torn | .check | .tag | .length | .misplaced => .voidImpairing
    | .held | .stale | .overRate => .voidNeutral

/-- The cause a HEALTH notice gives for a verdict (R91). The neutral causes change no state. -/
def arrivalCause (r : Source) : Verdict → HealthCause
  | .accepted q _ => if 1 < r.gapOf q then .gap else .accepted
  | .voided c => match c with
    | .torn => .torn
    | .check => .check
    | .tag => .tag
    | .length => .length
    | .misplaced => .misplaced
    | .held | .stale | .overRate => .accepted

/-! ### The health machine (R83 to R87) -/

/-- Entry to FAILED from an impairment: the silence expiry is made absent in LATCHED and keeps its time in
RECOVERING (R87). -/
def Health.failImpaired (h : Health) (r : Source) : Health :=
  { h with state := .failed, cause := some .impaired,
           silence := if r.faultMode = .latched then none else h.silence }

/-- An impairment in ABSENT or GOOD: strikes 1 and good-run 0; FAILED if the strike limit is 1, else SUSPECT
(R83, R84). -/
def Health.firstStrike (h : Health) (r : Source) : Health :=
  let h1 := { h with strikes := 1, goodRun := 0 }
  if r.strikeLimit ≤ 1 then h1.failImpaired r else { h1 with state := .suspect }

/-- An accepted arrival re-arms the silence expiry, in whatever state it finds the source (R87). -/
def Health.rearm (h : Health) (now : Nat) (r : Source) : Health :=
  { h with silence := some (now + r.silenceLimit) }

/-- One more clean arrival toward recovery; GOOD at the recovery count (R85, R86). -/
def Health.goodStep (h : Health) (r : Source) : Health :=
  let run := min Config.goodRunMax (h.goodRun + 1)
  if r.recoveryCount ≤ run then { h with state := .good, strikes := 0, goodRun := 0, cause := none }
  else { h with goodRun := run }

/-- An impairment in SUSPECT (R85). -/
def Health.suspectStrike (h : Health) (r : Source) : Health :=
  let h1 := { h with strikes := min Config.strikesMax (h.strikes + 1), goodRun := 0 }
  if r.strikeLimit ≤ h1.strikes then h1.failImpaired r else h1

/-- The transition of an arrival event, apart from the re-arming (Table 5-2). -/
def Health.transition (h : Health) (r : Source) (c : ArrivalClass) : Health :=
  match h.state, c with
  | .absent, .accepted => { h with state := .good }
  | .absent, .acceptedGap | .absent, .voidImpairing => h.firstStrike r
  | .good, .acceptedGap | .good, .voidImpairing => h.firstStrike r
  | .suspect, .accepted => h.goodStep r
  | .suspect, .acceptedGap | .suspect, .voidImpairing => h.suspectStrike r
  | .failed, .accepted => if r.faultMode = .recovering then h.goodStep r else h
  | .failed, .acceptedGap | .failed, .voidImpairing =>
    if r.faultMode = .recovering then { h with goodRun := 0 } else h
  | .good, .accepted => h
  | .disabled, _ => h
  | _, .voidNeutral => h

/-- The health record after an arrival event (R83 to R87). -/
def Health.afterArrival (h : Health) (r : Source) (now : Nat) (c : ArrivalClass) : Health :=
  match c with
  | .accepted | .acceptedGap => (h.rearm now r).transition r c
  | .voidImpairing | .voidNeutral => h.transition r c

/-- The health record after its silence expiry (R87). -/
def Health.afterSilence (h : Health) (r : Source) (now : Nat) : Health :=
  match h.state with
  | .absent => h.rearm now r
  | .good | .suspect =>
    let h1 := { h with state := .failed, cause := some .silent }
    if r.faultMode = .recovering then { (h1.rearm now r) with goodRun := 0 }
    else { h1 with silence := none }
  | .failed => if r.faultMode = .recovering then h.rearm now r else { h with silence := none }
  | .disabled => { h with silence := none }

/-- A record that enters ABSENT, with its silence expiry armed (R87, R89, R90). -/
def Health.entered (now limit : Nat) : Health :=
  { state := .absent, strikes := 0, goodRun := 0, silence := some (now + limit), cause := none }

/-! ### The arrival as one event (R62, R69, R72, R73) -/

/-- A judged arrival of source `src` at slot `k`: the source record, then the health record with all the
effects of a change of health. -/
def State.judged (src : Fin 48) (k : Nat) (v : Verdict) (s : State) : State :=
  let r := s.sources[src]
  let r1 := match v with
    | .accepted q len => r.accept k q len
    | .voided c => r.void k c
  (s.modSource src fun _ => r1).setHealth src
    (s.health[src].afterArrival r1 s.now (arrivalClass r v)) (arrivalCause r v)

/-- An arrival of a source (R61, R62): not judged while the record is not enabled. -/
def State.arrive (src : Fin 48) (k : Nat) (hdr : Option (List Byte)) (s : State) : State :=
  let r := s.sources[src]
  if r.enabled then s.judged src k (judgeArrival s.ctl.settings s.health[src] r k hdr) else s

/-- A write handed to the arrival checker (R58, R60): a payload write has no effect here. -/
def State.ingress (src : Fin 48) (k off : Nat) (bytes : List (Byte × Bool)) (s : State) : State :=
  match classifyWrite off bytes with
  | .payload => s
  | .commit => s.arrive src k (some (commitHeader bytes))
  | .torn => s.arrive src k none

end Sys2Proof.Machine
end

