-- ==== Sys2Proof/Machine/Translator.lean ====
section
/-! DEFINITION. The window translator (chapter 7): the header-read decision stage by stage, fills and
deliveries, and payload reads. -/

namespace Sys2Proof.Machine

/-! ### Counters and bindings -/

/-- A fill counter raised by one (R152). -/
def WindowCounters.bumpFill (c : WindowCounters) : FillReason → WindowCounters
  | .unrouted => { c with unrouted := add32 c.unrouted 1 }
  | .sourceDown => { c with sourceDown := add32 c.sourceDown 1 }
  | .noBaseline => { c with noBaseline := add32 c.noBaseline 1 }
  | .underrun => { c with underrun := add32 c.underrun 1 }
  | .void => { c with void := add32 c.void 1 }

/-- The realign counter raised by one (R139, R140). -/
def WindowCounters.bumpRealign (c : WindowCounters) : WindowCounters :=
  { c with realigns := add32 c.realigns 1 }

/-- A SOURCE binding whose sequence is newer than `q` (R137, R139). -/
def Binding.newerThan (q : Word16) : Binding → Bool
  | .source _ _ x _ _ => newer x q
  | .none | .fill => false

/-- A delivery's binding `k`, and the conversion of every other SOURCE binding newer than `q` to FILL
(R139 steps 1 and 3). -/
def bindDelivered (bs : List Binding) (k : Nat) (b : Binding) (q : Word16) : List Binding :=
  (bs.map fun x => if x.newerThan q then .fill else x).set k b

/-! ### Legs (R135) -/

/-- The legs a booking's mode admits, in the order they are tried (R135, R138). -/
def State.admittedLegs (s : State) (i : Fin 256) : List LegName :=
  match s.bookings[i].mode with
  | .none => [.main]
  | .merge => [.main, .backup]
  | .switch => (s.activeOf i).toList

/-- The usable legs with their sources: admitted, named and available (R135). -/
def State.usableLegs (s : State) (i : Fin 256) : List (LegName × Fin 48) :=
  (s.admittedLegs i).filterMap fun l =>
    match s.bookings[i].legSource? l with
    | none => none
    | some x => if s.available x then some (l, x) else none

/-! ### The take (R137) -/

/-- The candidate last of a take, unless a binding is newer than it (R137). -/
def takeLast (w : Window) (sh : Word16) : Option Word16 :=
  let c := sh - BitVec.ofNat 16 (w.guard + 1)
  if w.bindings.any (Binding.newerThan c) then w.last else some c

/-- The window record after a take at slot `k` from newest slot `h` and last accepted sequence `sh`
(R137). -/
def Window.take (w : Window) (d k h : Nat) (sh : Word16) : Window :=
  let t := (h + (d - w.guard)) % d
  { w with shift := (t + (d - k)) % d, last := takeLast w sh, takePending := false, disc := true }

/-! ### Fill and delivery at the window record (R139, R140, R141) -/

/-- The delivery sequence advances (R141). -/
def Window.advance (w : Window) : Window := { w with dseq := w.dseq + 1 }

/-- A fill of a held window at slot `k` (R140). -/
def Window.fillHeld (w : Window) (d k : Nat) (reason : FillReason) : Window :=
  let w1 := { w with bindings := w.bindings.set k .fill, counters := w.counters.bumpFill reason }
  match reason with
  | .underrun | .void =>
    if d ≤ w.fillRun + 1 then
      { w1 with fillRun := 0, takePending := true, counters := w1.counters.bumpRealign }
    else { w1 with fillRun := w.fillRun + 1 }
  | .sourceDown | .noBaseline | .unrouted => w1

/-- A fill of a window without a holder (R134). -/
def Window.fillUnrouted (w : Window) : Window :=
  { w with counters := w.counters.bumpFill .unrouted }

/-- A delivery at slot `k` (R139, steps 1 to 6). -/
def Window.deliver (w : Window) (d k : Nat) (leg : LegName) (src : Fin 48) (m : Nat) (e : SlotEntry) :
    Window :=
  let dist := distance e.seq w.last
  let c := { w.counters with delivered := add32 w.counters.delivered 1,
                             skipped := add32 w.counters.skipped (dist - 1) }
  { w with bindings := bindDelivered w.bindings k (.source src m e.seq e.len leg) e.seq,
           last := some e.seq, fillRun := 0, disc := false,
           takePending := w.takePending || d ≤ dist,
           counters := if d ≤ dist then c.bumpRealign else c }

/-- The header rewrite a delivery fixes (R142), from the record before the delivery. -/
def Window.rewriteFor (w : Window) (leg : LegName) (e : SlotEntry) : Rewrite :=
  { tag := w.tag, seq := w.dseq, disc := w.disc || 1 < distance e.seq w.last, backup := leg == .backup }

/-! ### The candidate (R138) -/

/-- The slot table entry of a source at a slot (section 4.7). -/
def State.slotOf (s : State) (src : Fin 48) (m : Nat) : Option SlotEntry :=
  (s.sources[src].slots.getD m none)

/-- The first usable leg whose mapped slot holds a candidate (R138). -/
def State.candidate (s : State) (last : Option Word16) (m : Nat) :
    List (LegName × Fin 48) → Option (LegName × Fin 48 × SlotEntry)
  | [] => none
  | (l, x) :: rest =>
    match s.slotOf x m with
    | some e => if newerThan e.seq last then some (l, x, e) else s.candidate last m rest
    | none => s.candidate last m rest

/-- The reason of a fill at the candidate stage (R138). -/
def State.missReason (s : State) (m : Nat) (legs : List (LegName × Fin 48)) : FillReason :=
  if legs.any fun p => (s.slotOf p.2 m).isSome then .underrun else .void

/-! ### The decision (R134 to R140) -/

/-- The decision of a header read, with the window record it acts on (after a take, if one was made). -/
inductive HeaderDecision where
  | fill (w : Window) (reason : FillReason)
  | deliver (w : Window) (leg : LegName) (src : Fin 48) (slot : Nat) (e : SlotEntry)
deriving DecidableEq, Repr

/-- The candidate stage (R138). -/
def State.candidateStage (s : State) (w : Window) (k : Nat) (legs : List (LegName × Fin 48)) :
    HeaderDecision :=
  let m := (k + w.shift) % s.ctl.settings.d
  match s.candidate w.last m legs with
  | some (l, x, e) => .deliver w l x m e
  | none => .fill w (s.missReason m legs)

/-- The take stage (R136, R137); the take leg is the first usable leg. -/
def State.takeStage (s : State) (w : Window) (k : Nat) (leg : LegName × Fin 48)
    (legs : List (LegName × Fin 48)) : HeaderDecision :=
  if w.takePending then
    match s.sources[leg.2].newest, s.sources[leg.2].last with
    | some h, some sh => s.candidateStage (w.take s.ctl.settings.d k h sh) k legs
    | _, _ => .fill w .noBaseline
  else s.candidateStage w k legs

/-- The decision of a header read of slot `k` of window `w` (R134 to R139). -/
def State.headerDecision (s : State) (w : Window) (k : Nat) : HeaderDecision :=
  match w.holder with
  | none => .fill w .unrouted
  | some h =>
    match s.usableLegs h.index with
    | [] => .fill w .sourceDown
    | leg :: rest => s.takeStage w k leg (leg :: rest)

/-! ### The header read (R134 to R143, R153) -/

/-- The meter of the holding booking, if there is one, is fed (R153). -/
def State.feedHolder (holder : Option Handle) (f : Meter → Meter) (s : State) : State :=
  match holder with
  | none => s
  | some h => s.modMeter h.index f

/-- The free value counter advances when a header read of exactly 31 bytes uses it (log 14). -/
def Port.useFree (n : Nat) (p : Port) : Port := if n = 31 then { p with freeCount := p.freeCount + 1 } else p

/-- The address of slot `m` of source `src`, at a slot offset (R4, R139). -/
def State.sourceAddr (s : State) (src : Fin 48) (m off : Nat) : Nat :=
  regionBase s.path.ingress + (src.val * s.ctl.settings.d + m) * s.ctl.settings.z + off

/-- A fill answer to a header read (R140, R141, R143). -/
def State.answerFill (t : Txn) (i : Fin 32) (k : Nat) (w : Window) (reason : FillReason) (s : State) :
    State :=
  let d := s.ctl.settings.d
  let n := t.access.length
  let w1 := match reason with
    | .unrouted => w.fillUnrouted
    | .sourceDown | .noBaseline | .underrun | .void => w.fillHeld d k reason
  let s1 := s.putWindow i w1.advance
  let s2 := match reason with
    | .unrouted => s1
    | .sourceDown | .noBaseline | .underrun | .void => s1.feedHolder w.holder Meter.fill
  s2.modPort fun p =>
    (p.answer t.id t.tag (.okay (fillData w.tag w.dseq w.disc p.freeCount n))).useFree n

/-- A delivery (R139, R141, R142): the translated read enters the forwarded stream. -/
def State.answerDeliver (t : Txn) (i : Fin 32) (k : Nat) (w : Window) (leg : LegName) (src : Fin 48)
    (m : Nat) (e : SlotEntry) (s : State) : State :=
  let s1 := s.putWindow i (w.deliver s.ctl.settings.d k leg src m e).advance
  let s2 := s1.feedHolder w.holder fun x => x.deliver e.len (distance e.seq w.last)
  s2.forward
    { txn := { t with addr := s.sourceAddr src m 0 }, cls := .egress,
      rewrite := some (w.rewriteFor leg e) }

/-- A header read of slot `k` of window `i` (R132, R134). -/
def State.windowHeaderRead (t : Txn) (i : Fin 32) (k : Nat) (s : State) : State :=
  match s.headerDecision s.windows[i] k with
  | .fill w reason => s.answerFill t i k w reason
  | .deliver w leg src m e => s.answerDeliver t i k w leg src m e

/-- A payload read of slot `k` of window `i` at a slot offset (R145). -/
def State.windowPayloadRead (t : Txn) (i : Fin 32) (k off : Nat) (s : State) : State :=
  match s.windows[i].bindings.getD k .none with
  | .source src m _ _ _ =>
    s.forward { txn := { t with addr := s.sourceAddr src m off }, cls := .egress, rewrite := none }
  | .none | .fill => s.answer t.id t.tag (.okay (zeros t.access.length))

end Sys2Proof.Machine
end

