-- ==== Sys2Proof/Machine/Watched.lean ====
section
/-! DEFINITION. The watched words of the control page (sections 2.1, 2.2, 2.3, 2.6): what the control
monitor does with a word handed to it, by the word, the activation state and the class (Table 2-2). -/

namespace Sys2Proof.Machine

/-- START acted on in PASSIVE (R21): the value is recorded, the rejected flag cleared, the state becomes
LOADING and the settings load is placed. -/
def State.startActivation (value : Word32) (s : State) : State :=
  (s.modCtl fun c => { c with act := .loading, startValue := value, rejected := false }).place
    s.settingsLoad

/-- A BAD_INDEX notice is offered (R41). -/
def State.badIndex (word : WatchedWord) (value : Word32) (count head other : Nat) (s : State) : State :=
  s.offer (.badIndex { word, value, count, head, other })

/-- An order tail write that is acted on (R27). -/
def State.tailWrite (value : Word32) (s : State) : State :=
  if value.toNat < s.ctl.settings.orderCount then s.modCtl fun c => { c with tail := value.toNat }
  else s.badIndex .orderTail value s.ctl.settings.orderCount s.ctl.head s.ctl.tail

/-- The STRAY-outstanding flag is cleared when the consumer passes the notice's ring index (R15). -/
def StrayMonitor.consumed (m : StrayMonitor) (count before after : Nat) : StrayMonitor :=
  match m.index with
  | some i =>
    if m.outstanding && onForwardPath count before after i then { m with outstanding := false, index := none }
    else m
  | none => m

/-- A report consumer write that is acted on (R40). -/
def State.consumerWrite (value : Word32) (s : State) : State :=
  let count := s.ctl.settings.reportCount
  if s.poster.consumerOk count value.toNat then
    (s.modPath fun p => { p with stray := p.stray.consumed count s.poster.consumer value.toNat }).modPoster
      fun p => { p with consumer := value.toNat }
  else s.badIndex .reportConsumer value count s.poster.head s.poster.consumer

/-- The tail and the consumer are acted on for class CONTROL in ACTIVE and HALTING (R20). -/
def State.heeds (s : State) (cls : InitiatorClass) : Bool := s.decoding && cls == .control

/-- The control monitor takes a watched word handed to it (R12, R20, Table 2-2). -/
def State.handOff (word : WatchedWord) (cls : InitiatorClass) (value : Word32) (s : State) : State :=
  match word with
  | .start => if s.ctl.act = .passive then s.startActivation value else s
  | .orderTail => if s.heeds cls then s.tailWrite value else s
  | .reportConsumer => if s.heeds cls then s.consumerWrite value else s

/-- START_WRITE (R21): the START word is handed on, from any class; while RESET is asserted nothing is
(R19). -/
def execStartWrite (value : Word32) (s : State) : Host.Outcome State Fault Refusal :=
  .next (if s.resetLine then s else s.handOff .start .other value)

/-- ORDER_TAIL_WRITE (R27). -/
def execOrderTailWrite (cls : InitiatorClass) (value : Word32) (s : State) :
    Host.Outcome State Fault Refusal :=
  .next (s.handOff .orderTail cls value)

/-- REPORT_CONSUMER_WRITE (R40). -/
def execReportConsumerWrite (cls : InitiatorClass) (value : Word32) (s : State) :
    Host.Outcome State Fault Refusal :=
  .next (s.handOff .reportConsumer cls value)

end Sys2Proof.Machine
end

