-- ==== Sys2Proof/Machine/MemoryPath.lean ====
section
/-! DEFINITION. The memory path (chapter 1): the decode, the stray monitor, acceptance on the system port,
the arbiter and issue, memory responses, and RESET. -/

namespace Sys2Proof.Machine

/-! ### The decode (Table 1-1, R6 to R8) -/

/-- The outcomes of the decode. A watched write is forwarded, and handed on at its issue (R12). -/
inductive Decoded where
  | forward
  | check (src : Fin 48) (k off : Nat)
  | translate (w : Fin 32) (k off : Nat)
  | refuse (kind : StrayKind)
deriving DecidableEq, Repr

/-- A place inside a ring region (R4): slot number, slot offset. -/
structure SlotPlace where
  slot : Nat
  off : Nat
deriving DecidableEq, Repr

/-- The place of address `a` in a region (R4). -/
def slotPlace (base z a : Nat) : SlotPlace := { slot := (a - base) / z, off := (a - base) % z }

/-- A range of `n` bytes from a place lies within its slot. -/
def SlotPlace.oneSlot (p : SlotPlace) (z n : Nat) : Bool := p.off + n ≤ z

/-- A transaction wholly inside the ingress region (R7). -/
def decodeIngress (g : Settings) (p : SlotPlace) (cls : InitiatorClass) (access : Access) : Decoded :=
  match access.isWrite, cls with
  | true, .ingress =>
    if p.oneSlot g.z access.length then .check (Fin.ofNat 48 (p.slot / g.d)) (p.slot % g.d) p.off
    else .refuse .span
  | true, .egress | true, .control | true, .other => .refuse .ingressWrite
  | false, .egress => .refuse .ingressRead
  | false, .ingress | false, .control | false, .other => .forward

/-- A transaction wholly inside the delivery region (R8). -/
def decodeDelivery (g : Settings) (p : SlotPlace) (cls : InitiatorClass) (access : Access) : Decoded :=
  match access.isWrite, cls with
  | true, _ => .refuse .deliveryWrite
  | false, .egress =>
    if p.oneSlot g.z access.length then .translate (Fin.ofNat 32 (p.slot / g.d)) (p.slot % g.d) p.off
    else .refuse .span
  | false, .ingress | false, .control | false, .other => .refuse .deliveryRead

/-- A range has a byte inside the region and a byte outside it (R6). -/
def crosses (r : Option Region) (a n : Nat) : Bool := meets r a n && !contains r a n

/-- The decode of a transaction in the decoding mode (R6 to R8, R13 for the order of the kinds). -/
def State.decode (s : State) (t : Txn) (cls : InitiatorClass) : Decoded :=
  let n := t.access.length
  if crosses s.path.ingress t.addr n || crosses s.path.delivery t.addr n then .refuse .boundary
  else if contains s.path.ingress t.addr n then
    decodeIngress s.ctl.settings (slotPlace (regionBase s.path.ingress) s.ctl.settings.z t.addr) cls
      t.access
  else if contains s.path.delivery t.addr n then
    decodeDelivery s.ctl.settings (slotPlace (regionBase s.path.delivery) s.ctl.settings.z t.addr) cls
      t.access
  else .forward

/-! ### The stray monitor (R13, R14) -/

/-- The count of a stray kind raised by one (R13). -/
def StrayCounts.bump (c : StrayCounts) : StrayKind → StrayCounts
  | .boundary => { c with boundary := add32 c.boundary 1 }
  | .span => { c with span := add32 c.span 1 }
  | .ingressWrite => { c with ingressWrite := add32 c.ingressWrite 1 }
  | .ingressRead => { c with ingressRead := add32 c.ingressRead 1 }
  | .deliveryWrite => { c with deliveryWrite := add32 c.deliveryWrite 1 }
  | .deliveryRead => { c with deliveryRead := add32 c.deliveryRead 1 }

/-- The monitor after a refusal is counted (R13). -/
def StrayMonitor.count (m : StrayMonitor) (kind : StrayKind) (id : Fin 16) (addr : Nat) : StrayMonitor :=
  { m with counts := m.counts.bump kind, lastOffender := some { id, addr } }

/-- A refused transaction (R6, R13, R14): FAULT at once, the count, and a STRAY notice when none is
outstanding; the flag stays set when the hold queue accepts the notice. -/
def State.refuse (t : Txn) (kind : StrayKind) (s : State) : State :=
  let m := s.path.stray.count kind t.id t.addr
  let s1 := s.answer t.id t.tag .fault
  if m.outstanding then s1.modPath fun p => { p with stray := m }
  else
    (s1.modPath fun p => { p with stray := { m with outstanding := s.poster.accepts } }).offer
      (.stray { kind, id := t.id, addr := t.addr, counts := m.counts })

/-! ### Acceptance on the system port (R1, R3, R16) -/

/-- A read of a window slot: a header read when it includes slot offset 0, else a payload read (R132). -/
def State.windowRead (t : Txn) (w : Fin 32) (k off : Nat) (s : State) : State :=
  if off = 0 then s.windowHeaderRead t w k else s.windowPayloadRead t w k off

/-- The bytes of a write with their enables, and none for a read. -/
def accessBytes : Access → List (Byte × Bool)
  | .read _ => []
  | .write bytes => bytes

/-- A transaction is accepted and treated by the mode that applies at its arrival (R3, R6 to R8, R11). -/
def State.accept (t : Txn) (s : State) : State :=
  if s.decoding then
    let cls := s.path.classMap[t.id]
    match s.decode t cls with
    | .forward => s.forward { txn := t, cls, rewrite := none }
    | .check src k off =>
      (s.forward { txn := t, cls, rewrite := none }).ingress src k off (accessBytes t.access)
    | .translate w k off => s.windowRead t w k off
    | .refuse kind => s.refuse t kind
  else s.forward { txn := t, cls := .other, rewrite := none }

/-- The system port takes no transaction while RESET is asserted, while the forwarded stream is full, or
while an earlier one is held off (R16, R19). -/
def State.holdsOff (s : State) : Bool :=
  s.resetLine || !s.port.heldOff.isEmpty || Config.streamCapacity ≤ s.port.forwarded.length

/-- A transaction is presented on the system port: accepted, or held off behind those that are (R16; log
6). -/
def State.present (t : Txn) (s : State) : State :=
  if s.holdsOff then s.modPort fun p => { p with heldOff := p.heldOff ++ [t] } else s.accept t

/-- The transaction at the head of those held off is taken, when the port takes transactions (R16). -/
def State.takeHeld (s : State) : State :=
  match s.port.heldOff with
  | [] => s
  | t :: rest =>
    if s.resetLine || Config.streamCapacity ≤ s.port.forwarded.length then s
    else (s.modPort fun p => { p with heldOff := rest }).accept t

/-- `takeHeld` repeated `n` times. -/
def State.takesHeld : Nat → State → State
  | 0, s => s
  | n + 1, s => s.takeHeld.takesHeld n

/-- The transactions held off are accepted, in order, until the forwarded stream is full again (R16). -/
def State.acceptHeld (s : State) : State := s.takesHeld s.port.heldOff.length

/-- SYSTEM_PORT_TRANSACTION (R6). -/
def execSystemPortTransaction (t : Txn) (s : State) : Host.Outcome State Fault Refusal :=
  .next (s.present t)

/-- INGRESS_WRITE (R60). The row names a transaction by its decode; the decode itself is the part's
(log 6). -/
def execIngressWrite (t : Txn) (s : State) : Host.Outcome State Fault Refusal :=
  .next (s.present t)

/-- HEADER_READ (R134). -/
def execHeaderRead (t : Txn) (s : State) : Host.Outcome State Fault Refusal :=
  .next (s.present t)

/-- PAYLOAD_READ (R145). -/
def execPayloadRead (t : Txn) (s : State) : Host.Outcome State Fault Refusal :=
  .next (s.present t)

/-! ### The arbiter and issue (R2, R12, R18) -/

/-- The stream the arbiter issues from (R18). -/
def Port.arbitrate (p : Port) : Option Stream :=
  match p.forwarded, p.own with
  | [], [] => none
  | _ :: _, [] => some .forwarded
  | [], _ :: _ => some .own
  | _ :: _, _ :: _ => some (match p.lastServed with | .forwarded => .own | .own => .forwarded)

/-- A transaction goes out on the memory port under the next tag (R2). -/
def Port.send (addr : Nat) (access : Access) (purpose : Purpose) (p : Port) : Port :=
  { p with outstanding := p.outstanding ++ [{ mtag := p.nextTag, addr, access, purpose }],
           nextTag := p.nextTag + 1 }

/-- The watched words a transaction covers are handed on, in ascending offset order (R12). -/
def State.handOffs (f : Forwarded) (s : State) : State :=
  let base := s.path.pageBase
  watchedWords.foldl
    (fun s (w : WatchedWord) =>
      match coveredWord f.txn (base + w.offset) with
      | none => s
      | some v => s.handOff w f.cls v) s

/-- The oldest transaction of the forwarded stream is issued (R16), its watched words are handed on
(R12), and a held-off transaction may be accepted. -/
def State.issueForwarded (s : State) : State :=
  match s.port.forwarded with
  | [] => s
  | f :: rest =>
    ((s.modPort fun p =>
      ({ p with forwarded := rest, lastServed := .forwarded } : Port).send f.txn.addr f.txn.access
        (.system f.txn.id f.txn.tag f.rewrite)).handOffs f).acceptHeld

/-- The oldest transaction of the own-traffic queue is issued (R17). -/
def State.issueOwn (s : State) : State :=
  match s.port.own with
  | [] => s
  | x :: rest =>
    s.modPort fun p =>
      ({ p with own := rest, lastServed := .own } : Port).send x.addr x.access (.own x.purpose)

/-- MEMORY_PORT_ISSUE (R18). -/
def execMemoryPortIssue (s : State) : Host.Outcome State Fault Refusal :=
  .next (match s.port.arbitrate with
    | none => s
    | some .forwarded => s.issueForwarded
    | some .own => s.issueOwn)

/-- OWN_TRAFFIC_PLACE (R17): the entry that has waited longest is placed when the queue has room. -/
def execOwnTrafficPlace (s : State) : Host.Outcome State Fault Refusal :=
  .next (match s.port.ownWaiting with
    | [] => s
    | x :: rest =>
      if s.port.own.length < Config.ownCapacity then
        s.modPort fun p => { p with own := p.own ++ [x], ownWaiting := rest }
      else s)

/-! ### Memory responses (R2, R9, R10) -/

/-- The answer an initiator receives for a memory response: memory's answer, with the header rewrite
applied to the data of a translated header read (R9, R10). -/
def systemAnswer (rewrite : Option Rewrite) (free : Nat) : Resp → Resp
  | .fault => .fault
  | .okay data =>
    match rewrite with
    | none => .okay data
    | some rw => .okay (rewriteHeader rw free data)

/-- The free value counter after an answer: it advances when a rewritten header of exactly 31 bytes is
returned (log 14). -/
def Port.useFreeFor (rewrite : Option Rewrite) (resp : Resp) (p : Port) : Port :=
  match rewrite, resp with
  | some _, .okay data => p.useFree data.length
  | _, _ => p

/-- MEMORY_RESPONSE (R10): the response to a transaction that came from the system port is returned to its
initiator. A response that matches no such transaction is discarded (R19, R45). -/
def execMemoryResponse (mtag : Nat) (resp : Resp) (s : State) : Host.Outcome State Fault Refusal :=
  .next (match s.port.find mtag with
    | none => s
    | some o => match o.purpose with
      | .own _ => s
      | .system id tag rewrite =>
        s.modPort fun p =>
          ((p.drop mtag).answer id tag (systemAnswer rewrite p.freeCount resp)).useFreeFor rewrite resp)

/-! ### RESET (R19) -/

/-- The answer of FAULT that RESET gives an outstanding transaction of the system port. -/
def Outstanding.resetAnswer (o : Outstanding) : Option Answer :=
  match o.purpose with
  | .system id tag _ => some { id, tag, resp := .fault }
  | .own _ => none

/-- The FAULT answers of RESET: the issued transactions, then those of the forwarded stream (R19; log
7). -/
def Port.resetAnswers (p : Port) : List Answer :=
  p.outstanding.filterMap Outstanding.resetAnswer ++
    p.forwarded.map fun (f : Forwarded) => { id := f.txn.id, tag := f.txn.tag, resp := .fault }

/-- RESET_ASSERT (R19, R46, R57, R75, R81, R104, R127, R151, R169). -/
def execResetAssert (s : State) : Host.Outcome State Fault Refusal :=
  .next { State.reset with
    pending := s.pending
    resetLine := true
    port := { Port.reset with
      nextTag := s.port.nextTag, heldOff := s.port.heldOff, freeCount := s.port.freeCount,
      answers := s.port.answers ++ s.port.resetAnswers } }

/-- RESET_RELEASE (R19): CPSEL is sampled and the control page entry is set; the system port takes
transactions again. -/
def execResetRelease (cpsel : Fin 16) (s : State) : Host.Outcome State Fault Refusal :=
  .next (if s.resetLine then
      State.acceptHeld { s with resetLine := false, path := PathState.reset cpsel }
    else s)

end Sys2Proof.Machine
end

