-- ==== Sys2Proof/Machine/Orders.lean ====
section
/-! DEFINITION. The order processor's own steps (sections 2.3 and 2.8): taking an order, a fetch that
memory answers FAULT, an unknown kind, HALT and its completion. -/

namespace Sys2Proof.Machine

/-- The three conditions and the states in which the next order is taken (R28). -/
def State.takesOrder (s : State) : Bool :=
  s.ctl.act == .active && !s.ctl.fetching && s.ctl.head != s.ctl.tail && s.settlements.isEmpty &&
    1 ≤ s.poster.free

/-- ORDER_TAKE (R28): the answer's entry is reserved, the fetch is placed, and the processor is FETCHING. -/
def execOrderTake (s : State) : Host.Outcome State Fault Refusal :=
  .next (if s.takesOrder then
      ((s.modPoster fun p => { p with reserved := true }).modCtl
        fun c => { c with fetching := true }).place s.orderFetch
    else s)

/-- ORDER_FETCH_FAULT (R30): REFUSED, reason MEMORY, with kind and tag 0. -/
def execOrderFetchFault (mtag : Nat) (s : State) : Host.Outcome State Fault Refusal :=
  .next (match s.fetchIndex mtag with
    | none => s
    | some index =>
      (s.dropResponse mtag).answerOrder
        (.completion { kind := 0, tag := 0, index, outcome := .refused .memory }))

/-- UNKNOWN_ORDER_KIND (R32, R173): a kind code of 0 or 13 to 255 is refused MALFORMED. -/
def execUnknownOrderKind (mtag : Nat) (entry : List Byte) (s : State) :
    Host.Outcome State Fault Refusal :=
  .next (match s.fetchIndex mtag with
    | none => s
    | some index =>
      if knownKind (orderKind entry) then s
      else
        (s.dropResponse mtag).answerOrder
          (.completion
            { kind := byteAt entry 0, tag := orderTag entry, index, outcome := .refused .malformed }))

/-! ### HALT (R43, R44, R126) -/

/-- Every booking in PENDING, PREROLL, ON_AIR or OVERRUN closes HALTED, in ascending order (R126). -/
def State.haltBookings (s : State) : State :=
  (s.bookingsWhere fun b => b.state.live).foldl (fun s i => s.closeBooking i .halted false) s

/-- A HALT that is carried out (R43): HALTING, the head advances, the bookings close, and the reserved entry
waits for the completion. -/
def State.halt (entry : List Byte) (index : Nat) (s : State) : State :=
  (s.modCtl fun c =>
    { c with act := .halting,
             haltAnswer := some { tag := orderTag entry, index, created := s.now } }).advanceHead.haltBookings

/-- HALT (R43). -/
def execHalt (mtag : Nat) (entry : List Byte) (s : State) : Host.Outcome State Fault Refusal :=
  .next (match s.fetchIndex mtag with
    | none => s
    | some index =>
      if orderKind entry = 12 then
        if shapeOk 12 entry then (s.dropResponse mtag).halt entry index
        else
          (s.dropResponse mtag).answerOrder
            (.completion
              { kind := byteAt entry 0, tag := orderTag entry, index, outcome := .refused .malformed })
      else s)

/-- The completion of a HALT (R44). -/
def HaltAnswer.report (a : HaltAnswer) : Report :=
  { created := a.created,
    body := .completion { kind := 12, tag := a.tag, index := a.index, outcome := .done false .halt } }

/-- HALT_COMPLETION (R44): in HALTING, with the settlement list empty, the completion fills its reserved
entry; from then on notices are dropped (R34). -/
def execHaltCompletion (s : State) : Host.Outcome State Fault Refusal :=
  .next (match s.ctl.haltAnswer with
    | none => s
    | some a =>
      if s.ctl.act = .halting ∧ s.settlements = [] ∧ s.poster.reserved then
        (s.modCtl fun c => { c with haltAnswer := none }).modPoster
          fun p => { p.fillReserved a.report with haltPlaced := true }
      else s)

end Sys2Proof.Machine
end

