-- ==== Sys2Proof/Machine/Activation.lean ====
section
/-! DEFINITION. The settings load and its two outcomes (section 2.2), and PASSIVE entry (section 2.8). -/

namespace Sys2Proof.Machine

/-- The activation is rejected (R25): PASSIVE, the rejected flag, and the REJECTED status write with the
reason and the check. Every table keeps its value. -/
def State.rejectActivation (reason : RejectReason) (check : Word32) (s : State) : State :=
  (s.modCtl fun c => { c with act := .passive, rejected := true }).place
    (s.statusWrite false (statusBytes 2 reason.code false check))

/-- The path decoder takes up the block (R4, R5, R13, R24). -/
def PathState.activated (p : PathState) (f : SettingsFields) : PathState :=
  { p with
    ingress := some { base := f.ingressBase, size := f.ingressSize }
    delivery := some { base := f.deliveryBase, size := f.deliverySize }
    classMap := f.classes.map fun c => (classOf? c).getD .other
    stray := .reset }

/-- The control monitor and the order processor take up the block (R24). -/
def Control.activated (c : Control) (f : SettingsFields) (check : Word32) : Control :=
  { c with act := .active, check, settings := f.settings, tail := 0, head := 0, fetching := false,
           haltAnswer := none, passiveWait := none }

/-- The time base is started (R48). -/
def TimeBase.started (f : SettingsFields) : TimeBase :=
  { divisor := f.divisorUsed, prescaler := 0, house := f.initialTime, running := true,
    rateInterval := f.rateUsed, rateExpiry := some (f.initialTime + f.rateUsed) }

/-- The source, window, tariff and booking tables take their activation values for ring depth `d`: those of
RESET, but that each booking entry keeps its generation (R75, R81, R92, R102, R104, R106, R108, R127,
R166). -/
def State.clearTables (d : Nat) (s : State) : State :=
  { s with
    sources := Vector.replicate 48 (.reset d)
    health := Vector.replicate 48 .reset
    legs := Vector.replicate 256 none
    tariffs := Vector.replicate 16 .reset
    bookings := s.bookings.map fun b => Booking.reset b.gen
    calendar := Vector.replicate 32 []
    useCounts := Vector.replicate 48 0
    windows := Vector.replicate 32 (.reset d)
    settlements := [] }

/-- The part takes up the block as one event (R24): the regions, the settings, the tables, the time base,
and then the three writes in order. -/
def State.activate (f : SettingsFields) (check : Word32) (s : State) : State :=
  let s1 : State :=
    { s.clearTables f.d with
      path := s.path.activated f, ctl := s.ctl.activated f check, poster := .reset,
      time := .started f }
  ((s1.place (s1.orderHeadWrite 0)).place (s1.reportHeadWrite 0 false)).place
    (s1.statusWrite false (statusBytes 1 0 f.clamped check))

/-- The load's response is judged (R21, R22, R24, R25). -/
def State.settingsLoaded (resp : Resp) (s : State) : State :=
  match resp with
  | .fault => s.rejectActivation .memory 0
  | .okay data =>
    match validateSettings data s.ctl.startValue s.path.pageBase with
    | some reason => s.rejectActivation reason (settingsCheck data)
    | none => s.activate (settingsFields data) (settingsCheck data)

/-- SETTINGS_LOAD_RESPONSE (R22): the response to the settings load, in LOADING. -/
def execSettingsLoadResponse (mtag : Nat) (resp : Resp) (s : State) :
    Host.Outcome State Fault Refusal :=
  .next (match s.port.ownPurpose mtag with
    | some .settingsLoad =>
      if s.ctl.act = .loading then (s.dropResponse mtag).settingsLoaded resp else s
    | _ => s)

/-! ### PASSIVE entry (R44, R45) -/

/-- The path decoder at PASSIVE entry (R4, R5, R13, R14): the counts and the last offender stay. -/
def PathState.passive (p : PathState) : PathState :=
  { p with
    ingress := none, delivery := none, classMap := Vector.replicate 16 .other,
    stray := { p.stray with outstanding := false, index := none } }

/-- The ports at PASSIVE entry (R17, R45): the own-traffic queue is empty, and responses to own traffic
still outstanding are discarded when they arrive. -/
def Port.passive (p : Port) : Port :=
  { p with own := [], ownWaiting := [], outstanding := p.outstanding.filter fun o => !o.purpose.isOwn }

/-- The time base at PASSIVE entry (R48). -/
def TimeBase.stopped (t : TimeBase) : TimeBase :=
  { t with running := false, prescaler := 0, rateExpiry := none }

/-- PASSIVE entry (R45). The tables take their RESET values, but that each booking entry keeps its
generation. -/
def State.passiveEntry (s : State) : State :=
  { s.clearTables 0 with
    path := s.path.passive, port := s.port.passive, ctl := .reset, poster := .reset,
    time := s.time.stopped }

/-- The part enters PASSIVE when both awaited responses have arrived (R44). -/
def State.passiveIfAnswered (s : State) : State :=
  match s.ctl.passiveWait with
  | some ⟨false, false⟩ => s.passiveEntry
  | _ => s

end Sys2Proof.Machine
end

