-- ==== Sys2Proof/Machine/Posting.lean ====
section
/-! DEFINITION. Posting to the report ring (section 2.5), the head-word and status-word responses, and the
settlements' own step (sections 2.4, 2.7, 2.8, 8.5). -/

namespace Sys2Proof.Machine

/-- SETTLEMENT_ENTRY (R166, R125): the settlement at the head of the list takes a free entry. -/
def execSettlementEntry (s : State) : Host.Outcome State Fault Refusal :=
  .next s.settlementEnter

/-- REPORT_WRITE_BEGIN (R37): no write in flight, an occupied entry, and room in the ring. -/
def execReportWriteBegin (s : State) : Host.Outcome State Fault Refusal :=
  .next (match s.poster.hold, s.poster.posting with
    | r :: _, none =>
      if s.poster.room s.ctl.settings.reportCount then
        (s.modPoster fun p => { p with posting := some { index := p.head, lost := p.lost }, lost := 0 }).place
          (s.reportWrite (r.bytes s.poster.lost s.path.stray.lastOffender))
      else s
    | _, _ => s)

/-- A report is the HALT completion (R44). -/
def Report.isHalt (r : Report) : Bool :=
  match r.body with
  | .completion c => match c.outcome with
    | .done _ .halt => true
    | _ => false
  | _ => false

/-- A report is a STRAY notice. -/
def Report.isStray (r : Report) : Bool :=
  match r.body with
  | .stray _ => true
  | _ => false

/-- The stray monitor when the write of its notice is answered (R14, R15; log 17): OKAY records the ring
index, FAULT clears the flag. -/
def StrayMonitor.posted (m : StrayMonitor) (index : Nat) (okay : Bool) : StrayMonitor :=
  if okay then { m with index := some index } else { m with outstanding := false, index := none }

/-- The poster after the response to its report write (R38): the entry is free; on OKAY the head advances,
on FAULT the report is counted lost with what it had carried. -/
def Poster.answered (p : Poster) (x : Posting) (count : Nat) (okay : Bool) : Poster :=
  let p1 := { p with hold := p.hold.tail, posting := none }
  if okay then { p1 with head := (p.head + 1) % count }
  else { p1 with lost := min Config.lostMax (x.lost + p.lost + 1) }

/-- The PASSIVE status write of R44 and R176 is placed, and the responses PASSIVE entry waits for are
noted. -/
def State.beginPassive (headPlaced : Bool) (s : State) : State :=
  (s.modCtl fun c => { c with passiveWait := some { status := true, head := headPlaced } }).place
    (s.statusWrite true (statusBytes 3 0 false s.ctl.check))

/-- The response to the report write of `r`, in flight as `x` (R38, R15, R35, R44). -/
def State.reportWritten (r : Report) (x : Posting) (okay : Bool) (s : State) : State :=
  let s1 := s.modPoster (·.answered x s.ctl.settings.reportCount okay)
  let s2 := if okay then s1.place (s1.reportHeadWrite s1.poster.head r.isHalt) else s1
  let s3 := if r.isStray then
      s2.modPath fun p => { p with stray := p.stray.posted x.index okay } else s2
  let s4 := s3.drainSettlements
  if r.isHalt then s4.beginPassive okay else s4

/-- REPORT_WRITE_RESPONSE (R38). -/
def execReportWriteResponse (mtag : Nat) (okay : Bool) (s : State) : Host.Outcome State Fault Refusal :=
  .next (match s.port.ownPurpose mtag with
    | some (.reportWrite _) =>
      match s.poster.hold, s.poster.posting with
      | r :: _, some x => (s.dropResponse mtag).reportWritten r x okay
      | _, _ => s
    | _ => s)

/-- The published report head after the response to the head-word write with tag `mtag` (R42): the latest
in issue order among those answered. -/
def Poster.publish (p : Poster) (mtag value : Nat) : Poster :=
  if (match p.publishedTag with | none => true | some t => t < mtag) then
    { p with published := value, publishedTag := some mtag }
  else p

/-- The awaited head-word write is answered (R44). -/
def Control.headAnswered (c : Control) (final : Bool) : Control :=
  if final then { c with passiveWait := c.passiveWait.map fun w => { w with head := false } } else c

/-- The awaited status write is answered (R44). -/
def Control.statusAnswered (c : Control) (passive : Bool) : Control :=
  if passive then { c with passiveWait := c.passiveWait.map fun w => { w with status := false } } else c

/-- HEAD_WORD_WRITE_RESPONSE (R42), whether OKAY or FAULT (R26), with PASSIVE entry when it was awaited
(R44). -/
def execHeadWordWriteResponse (mtag : Nat) (_okay : Bool) (s : State) : Host.Outcome State Fault Refusal :=
  .next (match s.port.ownPurpose mtag with
    | some (.reportHead value final) =>
      (((s.dropResponse mtag).modPoster (·.publish mtag value)).modCtl
        (·.headAnswered final)).passiveIfAnswered
    | _ => s)

/-- STATUS_WORD_WRITE_RESPONSE (R26): the response to an activation status word or order-head word write,
whether OKAY or FAULT, changes no internal value; PASSIVE entry follows when it was awaited (R44). -/
def execStatusWordWriteResponse (mtag : Nat) (_okay : Bool) (s : State) :
    Host.Outcome State Fault Refusal :=
  .next (match s.port.ownPurpose mtag with
    | some (.status passive) =>
      ((s.dropResponse mtag).modCtl (·.statusAnswered passive)).passiveIfAnswered
    | some (.orderHead _) => s.dropResponse mtag
    | _ => s)

end Sys2Proof.Machine
end

