-- ==== Sys2Proof/Machine/Sources.lean ====
section
/-! DEFINITION. The orders and the expiry of one source: DEFINE_SOURCE (section 4.8), CLEAR (section 5.3)
and the silence expiry (R87). -/

namespace Sys2Proof.Machine

/-- The silence limit as used (R77). -/
def silenceUsed (v : Nat) : Nat := min 60000 (max 10 v)

/-- The source record after a DEFINE_SOURCE that is carried out (R78). -/
def Source.define (r : Source) (o : SourceOrder) : Source :=
  let r1 : Source :=
    { r with enabled := o.enable, tag := o.tag, silenceLimit := silenceUsed o.silence,
             faultMode := o.faultMode, strikeLimit := o.strikeLimit, recoveryCount := o.recoveryCount,
             allowance := o.allowance }
  if r.enabled = o.enable then r1 else r1.clearBaseline.clearInterval

/-- The health record after a change of fault mode of a source that stays FAILED (R89). -/
def Health.faultModeSet (h : Health) (mode : FaultMode) (now limit : Nat) : Health :=
  match mode with
  | .recovering => { h with goodRun := 0, silence := some (now + limit) }
  | .latched => { h with goodRun := 0, silence := none }

/-- The health unit's part of DEFINE_SOURCE (R89), given the record before the order. -/
def State.defineHealth (before : Source) (o : SourceOrder) (s : State) : State :=
  let limit := silenceUsed o.silence
  match before.enabled, o.enable with
  | false, true => s.setHealth o.src (.entered s.now limit) .enable
  | true, false => s.setHealth o.src .reset .disable
  | true, true =>
    if s.healthOf o.src = .failed ∧ before.faultMode ≠ o.faultMode then
      s.putHealth o.src (s.health[o.src].faultModeSet o.faultMode s.now limit)
    else s
  | false, false => s

/-- DEFINE_SOURCE would disturb a source in use (R77). -/
def State.sourceInUse (s : State) (o : SourceOrder) : Bool :=
  0 < s.useCounts[o.src] && (!o.enable || o.tag != s.sources[o.src].tag)

/-- The result of a DEFINE_SOURCE (R80), with the snapshot taken before it was carried out. -/
def defineResult (o : SourceOrder) (before : Source) : OrderResult :=
  .defineSource o.src o.enable o.tag (silenceUsed o.silence) o.faultMode o.strikeLimit o.recoveryCount
    o.allowance before.snapshot

/-- The execution of DEFINE_SOURCE (R77 to R80, R89). -/
def defineSourceOrder (entry : List Byte) (_index : Nat) (s : State) : State × OrderReply :=
  match sourceOrder? entry with
  | none => refuseOrder .range s
  | some o =>
    if s.sourceInUse o then refuseOrder .inUse s
    else
      let before := s.sources[o.src]
      doneOrder (silenceUsed o.silence != o.silence) (defineResult o before)
        ((s.modSource o.src (·.define o)).defineHealth before o)

/-- DEFINE_SOURCE (R77). -/
def execDefineSource (mtag : Nat) (entry : List Byte) (s : State) : Host.Outcome State Fault Refusal :=
  .next (s.runOrder 1 mtag entry (defineSourceOrder entry))

/-- A CLEAR that is carried out (R90). -/
def State.clearSource (i : Fin 48) (s : State) : State :=
  (s.modSource i Source.clearBaseline).setHealth i (.entered s.now s.sources[i].silenceLimit) .clear

/-- The execution of CLEAR (R90). -/
def clearOrder (entry : List Byte) (_index : Nat) (s : State) : State × OrderReply :=
  match indexOf? 48 (field entry 0x08 1) with
  | none => refuseOrder .range s
  | some i =>
    if s.healthOf i = .failed ∧ s.sources[i].faultMode = .latched then
      doneOrder false (.clear i s.health[i].cause) (s.clearSource i)
    else refuseOrder .wrongState s

/-- CLEAR (R90). -/
def execClear (mtag : Nat) (entry : List Byte) (s : State) : Host.Outcome State Fault Refusal :=
  .next (s.runOrder 2 mtag entry (clearOrder entry))

/-- The silence expiry of a source is taken, if it is due (R87). -/
def State.takeSilence (i : Fin 48) (s : State) : State :=
  if dueAt s.now s.health[i].silence then
    s.setHealth i (s.health[i].afterSilence s.sources[i] s.now) .silence
  else s

/-- SILENCE_EXPIRY (R87). -/
def execSilenceExpiry (i : Fin 48) (s : State) : Host.Outcome State Fault Refusal :=
  .next (s.takeSilence i)

end Sys2Proof.Machine
end

