-- ==== Sys2Proof/Machine/Time.lean ====
section
/-! DEFINITION. House time (chapter 3): the rate interval, house ticks and REFCLK edges with the expiries they
find due, SET_TIME. -/

namespace Sys2Proof.Machine

/-! ### The rate interval (R54, R74) -/

/-- The RATE notice of a source (R74). -/
def Source.rateNotice (r : Source) (i : Fin 48) : ReportBody :=
  .rate { src := i, overRate := r.overRate, total := r.intervalBytes, allowance := r.allowance }

/-- The sources with OVER_RATE voids in the interval, in ascending order (R74). -/
def State.overRateSources (s : State) : List (Fin 48) :=
  (List.finRange 48).filter fun i => s.sources[i].overRate != 0

/-- The RATE notices of the interval are offered in ascending order (R74). -/
def State.offerRates (s : State) : State :=
  s.overRateSources.foldl (fun s (i : Fin 48) => s.offer (s.sources[i].rateNotice i)) s

/-- The interval figures of every source become 0 (R74). -/
def State.clearIntervals (s : State) : State := { s with sources := s.sources.map Source.clearInterval }

/-- The arrival checker takes the rate-interval expiry (R74): the notices, then the interval figures. -/
def State.closeInterval (s : State) : State := s.offerRates.clearIntervals

/-- The rate-interval expiry is taken, if it is due (R54): re-armed on the grid, then handed to the arrival
checker. -/
def State.takeRate (s : State) : State :=
  match s.time.rateExpiry with
  | none => s
  | some t =>
    if t ≤ s.now then
      (s.modTime fun b => { b with rateExpiry := some (t + b.rateInterval) }).closeInterval
    else s

/-- RATE_INTERVAL_EXPIRY (R54). -/
def execRateIntervalExpiry (s : State) : Host.Outcome State Fault Refusal :=
  .next s.takeRate

/-! ### House ticks (R47, R49, R51 to R53) -/

/-- The bookings of which one expiry is due, in ascending order of entry (R51). -/
def State.bookingsDue (s : State) (e : Booking → Option Nat) : List (Fin 256) :=
  s.bookingsWhere fun b => dueAt s.now (e b)

/-- The sources whose silence expiry is due, in ascending order (R51, R87). -/
def State.silencesDue (s : State) : List (Fin 48) :=
  (List.finRange 48).filter fun i => dueAt s.now s.health[i].silence

/-- The leg records whose wait-to-restore expiry is due, in ascending order of entry (R51, R96). -/
def State.restoresDue (s : State) : List (Fin 256) :=
  (List.finRange 256).filter fun i =>
    match s.legs[i] with
    | none => false
    | some l => dueAt s.now l.wtrExp

/-- Every expiry that is due and not yet taken is taken, each as its own event at its record (R51, R53): the
rate interval, then silences, waits to restore, pre-rolls, line-check waits, starts, ends and caps, each
kind in ascending order of record (log 5). -/
def State.takeDue (s : State) : State :=
  let s1 := s.takeRate
  let s2 := s1.silencesDue.foldl (fun s i => s.takeSilence i) s1
  let s3 := s2.restoresDue.foldl (fun s i => s.takeRestore i) s2
  let s4 := (s3.bookingsDue (·.prerollExp)).foldl (fun s i => s.takePreroll i) s3
  let s5 := (s4.bookingsDue (·.lineExp)).foldl (fun s i => s.takeLineWait i) s4
  let s6 := (s5.bookingsDue (·.startExp)).foldl (fun s i => s.takeStart i) s5
  let s7 := (s6.bookingsDue (·.endExp)).foldl (fun s i => s.takeEnd i) s6
  (s7.bookingsDue (·.capExp)).foldl (fun s i => s.takeCap i) s7

/-- The count of a house tick (R47, R49): the prescaler returns to 0 and house time is raised by one, or holds
at its maximum. -/
def TimeBase.tick (t : TimeBase) : TimeBase :=
  { t with prescaler := 0, house := min Config.houseMax (t.house + 1) }

/-- A house tick (R47, R51): no expiry of the house time that ends is left behind it, so that each occurs while
house time stands at its time; then house time is raised. -/
def State.tick (s : State) : State := (if s.anyDue then s.takeDue else s).modTime TimeBase.tick

/-- A rising edge of REFCLK while the time base runs (R47). -/
def State.edge (s : State) : State :=
  if s.time.prescaler + 1 < s.time.divisor then
    s.modTime fun t => { t with prescaler := t.prescaler + 1 }
  else s.tick

/-- HOUSE_TICK (R47): the prescaler count reaches the divisor. The command stands for the edges still
wanting (log 5). -/
def execHouseTick (s : State) : Host.Outcome State Fault Refusal :=
  .next (if s.time.running then s.tick else s)

/-- REFCLK_EDGE (R47): an edge that raises the prescaler count to the divisor is a house tick (log 5). -/
def execRefclkEdge (s : State) : Host.Outcome State Fault Refusal :=
  .next (if s.time.running then s.edge else s)

/-! ### SET_TIME (R55, R56) -/

/-- An expiry moves with house time (R56). -/
def shiftExpiry (old new : Nat) (t : Nat) : Nat := t + new - old

/-- The booking expiries move (R56). -/
def Booking.shift (f : Nat → Nat) (b : Booking) : Booking :=
  { b with prerollExp := b.prerollExp.map f, startExp := b.startExp.map f, endExp := b.endExp.map f,
           capExp := b.capExp.map f, lineExp := b.lineExp.map f }

/-- House time is set and every armed expiry moves by the same distance (R55, R56). -/
def State.setHouse (new : Nat) (s : State) : State :=
  let f := shiftExpiry s.now new
  { s with
    time := { s.time with house := new, prescaler := 0, rateExpiry := s.time.rateExpiry.map f }
    health := s.health.map fun h => { h with silence := h.silence.map f }
    legs := s.legs.map fun l => l.map fun r => { r with wtrExp := r.wtrExp.map f }
    bookings := s.bookings.map (Booking.shift f) }

/-- Every booking entry is FREE (R55). -/
def State.allFree (s : State) : Bool := s.bookings.toList.all fun b => b.state == .free

/-- The execution of SET_TIME (R55). -/
def setTimeOrder (entry : List Byte) (_index : Nat) (s : State) : State × OrderReply :=
  let new := field entry 0x08 8
  if Config.houseMax < new then refuseOrder .range s
  else if !s.allFree then refuseOrder .busy s
  else doneOrder false (.setTime s.now new) (s.setHouse new)

/-- SET_TIME (R55). -/
def execSetTime (mtag : Nat) (entry : List Byte) (s : State) : Host.Outcome State Fault Refusal :=
  .next (s.runOrder 11 mtag entry (setTimeOrder entry))

end Sys2Proof.Machine
end

