-- ==== Sys2Proof/Machine/Windows.lean ====
section
/-! DEFINITION. DEFINE_WINDOW (R128, R129). -/

namespace Sys2Proof.Machine

/-- The snapshot of a window record (R129, Table 9-12). -/
def Window.snapshot (w : Window) : WindowSnapshot :=
  { takePending := w.takePending, shift := w.shift, holder := w.holder, last := w.last, dseq := w.dseq,
    fillRun := w.fillRun, counters := w.counters }

/-- The guard depth as used (R128). -/
def guardUsed (d v : Nat) : Nat := min (d / 2) v

/-- The window record after a DEFINE_WINDOW (R129). -/
def Window.define (w : Window) (tag : Word16) (guard : Nat) : Window := { w with defined := true, tag, guard }

/-- The execution of DEFINE_WINDOW (R128, R129). -/
def defineWindowOrder (entry : List Byte) (_index : Nat) (s : State) : State × OrderReply :=
  match indexOf? 32 (field entry 0x08 2) with
  | none => refuseOrder .range s
  | some i =>
    let w := s.windows[i]
    let tag := word16At entry 0x0A
    let asked := field entry 0x0C 2
    let guard := guardUsed s.ctl.settings.d asked
    if w.holder.isSome ∧ tag ≠ w.tag then refuseOrder .inUse s
    else
      doneOrder (guard != asked) (.defineWindow i w.defined tag guard w.snapshot)
        (s.putWindow i (w.define tag guard))

/-- DEFINE_WINDOW (R128). -/
def execDefineWindow (mtag : Nat) (entry : List Byte) (s : State) : Host.Outcome State Fault Refusal :=
  .next (s.runOrder 10 mtag entry (defineWindowOrder entry))

end Sys2Proof.Machine
end

