-- ==== Sys2Proof/Machine/Dispatch.lean ====
section
/-! DEFINITION. One arm for each command: the dispatch of a command to its meaning. -/

namespace Sys2Proof.Machine

/-- The effect of a command on everything but the queue. -/
def exec (i : Instr) (s : State) : Host.Outcome State Fault Refusal :=
  match i with
  | .resetAssert => Sys2Proof.Machine.execResetAssert s
  | .resetRelease cpsel => Sys2Proof.Machine.execResetRelease cpsel s
  | .houseTick => Sys2Proof.Machine.execHouseTick s
  | .systemPortTransaction t => Sys2Proof.Machine.execSystemPortTransaction t s
  | .ingressWrite t => Sys2Proof.Machine.execIngressWrite t s
  | .headerRead t => Sys2Proof.Machine.execHeaderRead t s
  | .payloadRead t => Sys2Proof.Machine.execPayloadRead t s
  | .memoryPortIssue => Sys2Proof.Machine.execMemoryPortIssue s
  | .startWrite value => Sys2Proof.Machine.execStartWrite value s
  | .orderTailWrite cls value => Sys2Proof.Machine.execOrderTailWrite cls value s
  | .reportConsumerWrite cls value => Sys2Proof.Machine.execReportConsumerWrite cls value s
  | .memoryResponse mtag resp => Sys2Proof.Machine.execMemoryResponse mtag resp s
  | .settingsLoadResponse mtag resp => Sys2Proof.Machine.execSettingsLoadResponse mtag resp s
  | .ownTrafficPlace => Sys2Proof.Machine.execOwnTrafficPlace s
  | .orderTake => Sys2Proof.Machine.execOrderTake s
  | .orderFetchFault mtag => Sys2Proof.Machine.execOrderFetchFault mtag s
  | .defineSource mtag entry => Sys2Proof.Machine.execDefineSource mtag entry s
  | .clear mtag entry => Sys2Proof.Machine.execClear mtag entry s
  | .forceLeg mtag entry => Sys2Proof.Machine.execForceLeg mtag entry s
  | .tariff mtag entry => Sys2Proof.Machine.execTariff mtag entry s
  | .book mtag entry => Sys2Proof.Machine.execBook mtag entry s
  | .extend mtag entry => Sys2Proof.Machine.execExtend mtag entry s
  | .release mtag entry => Sys2Proof.Machine.execRelease mtag entry s
  | .cancel mtag entry => Sys2Proof.Machine.execCancel mtag entry s
  | .meter mtag entry => Sys2Proof.Machine.execMeter mtag entry s
  | .defineWindow mtag entry => Sys2Proof.Machine.execDefineWindow mtag entry s
  | .setTime mtag entry => Sys2Proof.Machine.execSetTime mtag entry s
  | .halt mtag entry => Sys2Proof.Machine.execHalt mtag entry s
  | .settlementEntry => Sys2Proof.Machine.execSettlementEntry s
  | .reportWriteBegin => Sys2Proof.Machine.execReportWriteBegin s
  | .reportWriteResponse mtag okay => Sys2Proof.Machine.execReportWriteResponse mtag okay s
  | .headWordWriteResponse mtag okay => Sys2Proof.Machine.execHeadWordWriteResponse mtag okay s
  | .statusWordWriteResponse mtag okay => Sys2Proof.Machine.execStatusWordWriteResponse mtag okay s
  | .haltCompletion => Sys2Proof.Machine.execHaltCompletion s
  | .rateIntervalExpiry => Sys2Proof.Machine.execRateIntervalExpiry s
  | .silenceExpiry src => Sys2Proof.Machine.execSilenceExpiry src s
  | .waitToRestoreExpiry b => Sys2Proof.Machine.execWaitToRestoreExpiry b s
  | .prerollExpiry b => Sys2Proof.Machine.execPrerollExpiry b s
  | .lineCheckWaitExpiry b => Sys2Proof.Machine.execLineCheckWaitExpiry b s
  | .startExpiry b => Sys2Proof.Machine.execStartExpiry b s
  | .endExpiry b => Sys2Proof.Machine.execEndExpiry b s
  | .overrunCapExpiry b => Sys2Proof.Machine.execOverrunCapExpiry b s
  | .refclkEdge => Sys2Proof.Machine.execRefclkEdge s
  | .unknownOrderKind mtag entry => Sys2Proof.Machine.execUnknownOrderKind mtag entry s

end Sys2Proof.Machine
end

