-- ==== Sys2Proof/Machine/Step.lean ====
section
/-! DEFINITION. One step: the command at the front of the queue is taken and carried out. -/

namespace Sys2Proof.Machine

/-- The step of the block: the front command runs on the state with the queue's rest; on an empty queue the
block idles (log 3). -/
def step (s : State) : Host.Outcome State Fault Refusal :=
  match s.pending with
  | [] => .next s
  | c :: rest => exec c { s with pending := rest }

/-- A command is put at the front of the queue. -/
def State.pushFront (c : Instr) (s : State) : State := { s with pending := c :: s.pending }

/-- The command that a word spells is put at the front of the queue; a word that spells none leaves the
state. -/
def State.withFetchWord (s : State) (nbits w : Nat) : State :=
  match decodeTableWord nbits w with
  | none => s
  | some c => s.pushFront c

end Sys2Proof.Machine
end

