-- ==== Sys2Proof/Safety.lean ====
section
/-! DEFINITION. The laws the spec states of every state of the part: bounded queues, waiting settlements,
the time base, slot tables, window bindings, window holders and the settlement list, the calendar, and the
use counts. -/

namespace Sys2Proof.Machine

/-- Entries of the hold queue that are occupied or reserved (R33). -/
def Poster.used (p : Poster) : Nat := p.hold.length + p.reserved.toNat

/-- The queues keep their sizes: 16 forwarded transactions (R16), 8 of own traffic (R17), 16 hold-queue
entries (R33), and a lost-notice count of 16 bits (R39). -/
abbrev State.queuesBounded (s : State) : Prop :=
  s.port.forwarded.length ≤ 16 ∧ s.port.own.length ≤ 8 ∧ s.poster.used ≤ 16 ∧ s.poster.lost ≤ 65535

/-- A waiting settlement means that no hold-queue entry is free (R34, R35). -/
abbrev State.settlementsWait (s : State) : Prop := s.settlements = [] ∨ s.poster.free = 0

/-- The ranges of the time base (R47), which runs exactly in ACTIVE and HALTING (R48). -/
abbrev State.timeLaw (s : State) : Prop :=
  s.time.house ≤ 2 ^ 40 - 1 ∧ 8 ≤ s.time.divisor ∧ s.time.divisor ≤ 16777215 ∧
    s.time.prescaler < s.time.divisor ∧ 1 ≤ s.time.rateInterval ∧ s.time.rateInterval ≤ 1000 ∧
    s.time.running = s.decoding ∧ s.time.rateExpiry.isSome = s.decoding

/-- The rate-interval expiry and the silence expiries are never behind house time (R56), and every silence limit
is 10 ms or more (R77). -/
abbrev State.aheadLaw (s : State) : Prop :=
  (∀ e, s.time.rateExpiry = some e → s.time.house ≤ e) ∧
    ∀ i : Fin 48, 10 ≤ s.sources[i].silenceLimit ∧ ∀ e, s.health[i].silence = some e → s.time.house ≤ e

/-- No armed expiry of the part lies behind house time (R51). -/
def State.noneBehind (s : State) : Prop :=
  (∀ e, s.time.rateExpiry = some e → s.time.house ≤ e) ∧
    (∀ (i : Fin 48) (e : Nat), s.health[i].silence = some e → s.time.house ≤ e) ∧
    (∀ (i : Fin 256) (l : Leg) (e : Nat), s.legs[i] = some l → l.wtrExp = some e → s.time.house ≤ e) ∧
    ∀ (i : Fin 256) (e : Nat),
      (s.bookings[i].prerollExp = some e ∨ s.bookings[i].startExp = some e ∨
        s.bookings[i].endExp = some e ∨ s.bookings[i].capExp = some e ∨
        s.bookings[i].lineExp = some e) → s.time.house ≤ e

/-- The rows of the table that take an expiry (Table 3-2). -/
def takesExpiry : Instr → Bool
  | .rateIntervalExpiry | .silenceExpiry _ | .waitToRestoreExpiry _ | .prerollExpiry _
  | .lineCheckWaitExpiry _ | .startExpiry _ | .endExpiry _ | .overrunCapExpiry _ => true
  | _ => false

/-- Commands carried out one after another. -/
def execAll : List Instr → State → Host.Outcome State Fault Refusal
  | [], s => .next s
  | c :: cs, s =>
    match exec c s with
    | .next t => execAll cs t
    | .fault f => .fault f
    | .refused r => .refused r

/-- The order processor fetches in ACTIVE alone (R28, R43). -/
abbrev State.fetchLaw (s : State) : Prop := s.ctl.fetching = true → s.ctl.act = .active

/-- A slot table of `d` entries in which every valid entry stands at its sequence modulo `d` and is not
newer than the last accepted sequence (R71). -/
def Source.slotsOk (d : Nat) (r : Source) : Prop :=
  r.slots.length = d ∧
    ∀ (k : Nat) (e : SlotEntry), r.slots[k]? = some (some e) →
      e.seq.toNat % d = k ∧ ∃ l, r.last = some l ∧ newer e.seq l = false

/-- Every slot table is consistent with its source (R71). -/
def State.slotLaw (s : State) : Prop := ∀ i : Fin 48, s.sources[i].slotsOk s.ctl.settings.d

/-- In a window that has SOURCE bindings a holder is present, and no binding is newer than the last
delivered sequence (R146). -/
def Window.bindingsOk (w : Window) : Prop :=
  ∀ (k : Nat) (src : Fin 48) (m : Nat) (q : Word16) (len : Nat) (leg : LegName),
    w.bindings[k]? = some (.source src m q len leg) →
      w.holder.isSome ∧ ∃ l, w.last = some l ∧ newer q l = false

/-- The binding tables of all windows (R146). -/
def State.bindingLaw (s : State) : Prop := ∀ w : Fin 32, s.windows[w].bindingsOk

/-- The holder of a window is a booking in ON_AIR or OVERRUN, of the handle's generation, that names the
window; and such a booking holds every window it names (R130). -/
def State.holderLaw (s : State) : Prop :=
  (∀ (w : Fin 32) (h : Handle), s.windows[w].holder = some h →
    s.bookings[h.index].state.onAirOrOverrun ∧ s.bookings[h.index].gen = h.gen ∧
      w ∈ s.bookings[h.index].windows) ∧
  ∀ i : Fin 256, s.bookings[i].state.onAirOrOverrun →
    ∀ w ∈ s.bookings[i].windows, s.windows[w].holder = some (s.handleOf i)

/-- The settlement list holds the bookings in SETTLING, each once, and they alone hold a settlement (R125,
R166). -/
abbrev State.settlementLaw (s : State) : Prop :=
  s.settlements.Nodup ∧
    ∀ i : Fin 256, (i ∈ s.settlements ↔ s.bookings[i].state = .settling) ∧
      (s.bookings[i].held.isSome ↔ s.bookings[i].state = .settling)

/-- The calendar has one item for each window of each booking not closed, with its planned interval, and
the items of a window follow one another without overlap (R106, R107). -/
def State.calendarLaw (s : State) : Prop :=
  (∀ (w : Fin 32) (x : CalItem), x ∈ s.calendar[w] ↔
    s.bookings[x.booking].state.live ∧ w ∈ s.bookings[x.booking].windows ∧
      x.startS = s.bookings[x.booking].startS ∧ x.endE = s.bookings[x.booking].endE) ∧
  (∀ w : Fin 32, s.calendar[w].Pairwise fun x y => x.booking ≠ y.booking ∧ x.endE ≤ y.startS) ∧
  ∀ i : Fin 256, s.bookings[i].state.live →
    s.bookings[i].startS < s.bookings[i].endE ∧ s.bookings[i].windows.Nodup

/-- The bookings in PREROLL, ON_AIR or OVERRUN that name a source (R108). -/
def State.users (s : State) (x : Fin 48) : List (Fin 256) :=
  s.bookingsWhere fun b => b.state.holdsSources && b.names x

/-- Each use count is the number of bookings in PREROLL, ON_AIR or OVERRUN that name the source, and a source
in use is enabled (R108). A booking never names one source twice (R109). -/
abbrev State.useLaw (s : State) : Prop :=
  (∀ x : Fin 48, s.useCounts[x] = (s.users x).length ∧ (0 < s.useCounts[x] → s.sources[x].enabled)) ∧
    ∀ i : Fin 256, s.bookings[i].backup ≠ some s.bookings[i].main

/-- Every SOURCE binding names a source that the window's holder names (R146). -/
def State.bindingSourceLaw (s : State) : Prop :=
  ∀ (w : Fin 32) (k : Nat) (src : Fin 48) (m : Nat) (q : Word16) (len : Nat) (leg : LegName),
    s.windows[w].bindings[k]? = some (.source src m q len leg) →
      ∃ h, s.windows[w].holder = some h ∧ src ∈ s.bookings[h.index].sources

/-- A health record and its source record: DISABLED exactly while not enabled, a failure cause exactly while
FAILED, the ranges of the counts, and a silence expiry exactly in the states that have one (R81, R87, R89). -/
abbrev Health.lawful (h : Health) (r : Source) : Prop :=
  (r.enabled = true ↔ h.state ≠ .disabled) ∧ (h.cause.isSome ↔ h.state = .failed) ∧
    h.strikes ≤ 15 ∧ h.goodRun ≤ 255 ∧
    (h.silence.isSome ↔ h.state ≠ .disabled ∧ ¬(h.state = .failed ∧ r.faultMode = .latched))

/-- Every health record is lawful. -/
abbrev State.healthLaw (s : State) : Prop := ∀ i : Fin 48, s.health[i].lawful s.sources[i]

/-- A leg record exists for each SWITCH booking in PREROLL, ON_AIR or OVERRUN and for no other, and its active leg
is present exactly on air (R92, R93). -/
def State.legLaw (s : State) : Prop :=
  ∀ i : Fin 256,
    (s.legs[i].isSome ↔ s.bookings[i].mode = .switch ∧ s.bookings[i].state.holdsSources) ∧
      ∀ l, s.legs[i] = some l → (l.active.isSome ↔ s.bookings[i].state.onAirOrOverrun)

/-- The expiries of an entry are those its state arms (Table 6-4). -/
abbrev Booking.expiriesOk (b : Booking) : Prop :=
  (b.prerollExp.isSome ↔ b.state = .pending) ∧ (b.startExp.isSome ↔ b.state = .preroll) ∧
    (b.state = .onAir → b.endExp = some b.endE) ∧ (b.state ≠ .onAir → b.endExp = none) ∧
    (b.state = .overrun → b.capExp = some (b.endE + b.maxOver)) ∧
    (b.state ≠ .overrun → b.capExp = none) ∧ (b.lineExp.isSome ↔ b.lineCheck = .waiting) ∧
    (b.lineCheck = .waiting → b.state = .preroll)

/-- The expiries of every entry (Table 6-4). -/
abbrev State.expiryLaw (s : State) : Prop := ∀ i : Fin 256, s.bookings[i].expiriesOk

/-! ### Frames -/

/-- A command of the tables leaves the queue, the RESET line, the path decoder, the ports, the control
monitor, the time base, the tariffs and every field of the poster but the lost-notice count; to the hold
queue it only adds, behind what waits there. -/
def State.tablesOnly (s t : State) : Prop :=
  t.pending = s.pending ∧ t.resetLine = s.resetLine ∧ t.path = s.path ∧ t.port = s.port ∧
    t.ctl = s.ctl ∧ t.time = s.time ∧ t.tariffs = s.tariffs ∧ s.poster.hold <+: t.poster.hold ∧
    t.poster = { s.poster with hold := t.poster.hold, lost := t.poster.lost }

/-- A booking keeps every field but those a health change, a leg change or a judgement touches: its meter and
its line check. -/
def State.bookingsQuiet (s t : State) : Prop :=
  ∀ i : Fin 256, t.bookings[i] =
    { s.bookings[i] with
      meter := t.bookings[i].meter, lineCheck := t.bookings[i].lineCheck,
      lineExp := t.bookings[i].lineExp }

/-! ### The system port -/

/-- The count of a stray kind (R13). -/
def strayCount (c : StrayCounts) : StrayKind → Nat
  | .boundary => c.boundary
  | .span => c.span
  | .ingressWrite => c.ingressWrite
  | .ingressRead => c.ingressRead
  | .deliveryWrite => c.deliveryWrite
  | .deliveryRead => c.deliveryRead

/-- The counter of a void cause (Table 4-3). -/
def voidCount (v : VoidCounters) : VoidCause → Nat
  | .held => v.held
  | .torn => v.torn
  | .check => v.check
  | .tag => v.tag
  | .length => v.length
  | .misplaced => v.misplaced
  | .stale => v.stale
  | .overRate => v.overRate

/-- The counter of a fill reason (R152). -/
def fillCount (c : WindowCounters) : FillReason → Nat
  | .unrouted => c.unrouted
  | .sourceDown => c.sourceDown
  | .noBaseline => c.noBaseline
  | .underrun => c.underrun
  | .void => c.void

/-- The four rows of the table that present a transaction on the system port. -/
abbrev presents (t : Txn) (c : Instr) : Prop :=
  c = .systemPortTransaction t ∨ c = .ingressWrite t ∨ c = .headerRead t ∨ c = .payloadRead t

/-- A transaction enters the forwarded stream behind what waits there (R16). -/
def State.entered (s : State) (f : Forwarded) : State :=
  { s with port := { s.port with forwarded := s.port.forwarded ++ [f] } }

/-- A transaction is answered on the system port (R1). -/
def State.answered (s : State) (t : Txn) (r : Resp) : State :=
  { s with port := { s.port with answers := s.port.answers ++ [{ id := t.id, tag := t.tag, resp := r }] } }

/-- The system port takes a transaction, which the decode of the decoding mode treats as `d` (R3, R6). -/
abbrev State.decodes (s : State) (t : Txn) (d : Decoded) : Prop :=
  s.holdsOff = false ∧ s.decoding = true ∧ s.decode t s.path.classMap[t.id] = d

/-! ### Report layouts (section 9.5) -/

/-- A field of a report entry: its offset, its size in bytes and its value. -/
abbrev ReportField := Nat × Nat × Nat

/-- A handle at an offset: the index, then the generation (section 9.1). -/
def handleAt (off : Nat) (h : Handle) : List ReportField := [(off, 1, h.index.val), (off + 1, 1, h.gen.toNat)]

/-- An optional time in 6 bytes, all ones when absent (R174). -/
def timeAt (off : Nat) (t : Option Nat) : ReportField := (off, 6, t.getD (2 ^ 48 - 1))

/-- An optional sequence in 2 bytes, all ones when absent (R174). -/
def seqAt (off : Nat) (q : Option Word16) : ReportField :=
  (off, 2, match q with | none => 0xFFFF | some x => x.toNat)

/-- The four places of a window list, 0xFF beyond its count (Tables 9-14 and 9-15). -/
def windowsAt (off : Nat) (ws : List (Fin 32)) : List ReportField :=
  (List.range 4).map fun k => (off + k, 1, match ws[k]? with | none => 0xFF | some w => w.val)

/-- 32-bit counters, one after another. -/
def countersAt (off : Nat) (cs : List Nat) : List ReportField := cs.zipIdx.map fun c => (off + 4 * c.2, 4, c.1)

/-- The source snapshot (Table 9-11). -/
def SourceSnapshot.layout (off : Nat) (x : SourceSnapshot) : List ReportField :=
  [(off, 1, (if x.enabled then 1 else 0) + (if x.last.isSome then 2 else 0)),
    (off + 0x01, 1, x.newest.getD 0xFF), seqAt (off + 0x02) x.last, (off + 0x04, 4, x.intervalBytes),
    (off + 0x08, 4, x.accepted), (off + 0x0C, 4, x.gaps)] ++
  countersAt (off + 0x10)
    [x.voids.held, x.voids.torn, x.voids.check, x.voids.tag, x.voids.length, x.voids.misplaced,
      x.voids.stale, x.voids.overRate]

/-- The window snapshot (Table 9-12). -/
def WindowSnapshot.layout (off : Nat) (x : WindowSnapshot) : List ReportField :=
  [(off, 1, (if x.holder.isSome then 1 else 0) + (if x.takePending then 2 else 0) +
      (if x.last.isSome then 4 else 0)), (off + 0x01, 1, x.shift)] ++
  (match x.holder with | none => [(off + 0x02, 2, 0xFFFF)] | some h => handleAt (off + 0x02) h) ++
  [seqAt (off + 0x04) x.last, (off + 0x06, 2, x.dseq.toNat), (off + 0x08, 1, x.fillRun)] ++
  countersAt (off + 0x0A)
    [x.counters.delivered, x.counters.unrouted, x.counters.sourceDown, x.counters.noBaseline,
      x.counters.underrun, x.counters.void, x.counters.skipped, x.counters.realigns]

/-- The results of a DONE completion (Table 9-10). -/
def OrderResult.layout : OrderResult → List ReportField
  | .defineSource src enable tag silence mode strikes recovery allowance snap =>
    [(0x18, 1, src.val), (0x19, 1, enable.toNat), (0x1A, 2, tag.toNat), (0x1C, 4, silence),
      (0x20, 1, mode.code), (0x21, 1, strikes), (0x22, 1, recovery), (0x24, 4, allowance)] ++
    snap.layout 0x28
  | .clear src cause => [(0x18, 1, src.val), (0x19, 1, failureCode? cause)]
  | .forceLeg h forced active =>
    handleAt 0x18 h ++ [(0x1A, 1, forced.code), (0x1B, 1, legCode? active)]
  | .tariff c before => [(0x18, 1, c.val), (0x19, 1, before.toNat)]
  | .book h reached s e account matchRef =>
    handleAt 0x18 h ++
    [(0x1A, 1, reached.code), (0x1C, 6, s), (0x22, 6, e), (0x28, 4, account.toNat),
      (0x2C, 4, matchRef.toNat)]
  | .extend h state newEnd granted =>
    handleAt 0x18 h ++ [(0x1A, 1, state.code), (0x1C, 6, newEnd), (0x22, 4, granted)]
  | .release h actEnd => handleAt 0x18 h ++ [(0x1C, 6, actEnd)]
  | .cancel h late cancelTime => handleAt 0x18 h ++ [(0x1A, 1, late.toNat), (0x1C, 6, cancelTime)]
  | .defineWindow w before tag guard snap =>
    [(0x18, 1, w.val), (0x19, 1, before.toNat), (0x1A, 2, tag.toNat), (0x1C, 2, guard)] ++
    snap.layout 0x1E
  | .setTime previous new => [(0x18, 6, previous), (0x1E, 6, new)]
  | .halt => []

/-- A COMPLETION (Tables 9-9 and 9-10). -/
def Completion.layout (c : Completion) : List ReportField :=
  match c.outcome with
  | .done clamped result =>
    [(0x08, 1, c.kind.toNat), (0x09, 1, 0), (0x0A, 1, 0), (0x0B, 1, clamped.toNat), (0x0C, 4, c.tag.toNat),
      (0x10, 2, c.index)] ++ result.layout
  | .refused reason =>
    [(0x08, 1, c.kind.toNat), (0x09, 1, 1), (0x0A, 1, reason.code), (0x0B, 1, 0), (0x0C, 4, c.tag.toNat),
      (0x10, 2, c.index)]

/-- A METER report (Table 9-13). -/
def MeterReport.layout (m : MeterReport) : List ReportField :=
  [(0x08, 4, m.tag.toNat), (0x0C, 2, m.index)] ++ handleAt 0x0E m.handle ++
  [(0x10, 1, m.state.code),
    (0x11, 1, (if m.charges.capped then 1 else 0) + (if m.openLength.isSome then 2 else 0)),
    (0x12, 6, m.startS), (0x18, 6, m.endE), timeAt 0x1E m.actStart, (0x24, 6, m.actEnd),
    (0x2A, 4, m.charges.bookedMs), (0x2E, 4, m.charges.overrunMs), (0x32, 4, m.charges.chargeableMs),
    (0x36, 4, m.charges.qualifyingMs), (0x3A, 2, m.charges.baseMin), (0x3C, 2, m.charges.overMin),
    (0x3E, 2, m.charges.creditMin), (0x40, 6, m.charges.baseCharge), (0x46, 6, m.charges.overCharge),
    (0x4C, 6, m.charges.credit), (0x52, 6, m.charges.total), (0x58, 4, m.spans), (0x5C, 4, m.longest),
    (0x60, 4, m.openLength.getD 0), (0x64, 4, m.delivered), (0x68, 6, m.deliveredBytes),
    (0x6E, 4, m.fills), (0x72, 4, m.skipped), (0x76, 4, m.legSwitches)]

/-- A SETTLEMENT report (Table 9-14). -/
def Settlement.layout (x : Settlement) : List ReportField :=
  handleAt 0x08 x.handle ++
  [(0x0A, 1, x.reason.code + 8 * x.mode.code + (if x.charges.capped then 32 else 0) +
      (if x.lateCancel then 64 else 0) + (if x.withdrawn then 128 else 0)),
    (0x0B, 1, x.main.val), (0x0C, 1, match x.backup with | none => 0xFF | some i => i.val)] ++
  windowsAt 0x0D x.windows ++
  [(0x11, 4, x.account.toNat), (0x15, 4, x.matchRef.toNat), (0x19, 6, x.startS), (0x1F, 6, x.endE),
    timeAt 0x25 x.actStart, timeAt 0x2B x.actEnd, timeAt 0x31 x.cancelTime,
    (0x37, 4, x.charges.bookedMs), (0x3B, 3, x.charges.overrunMs), (0x3E, 3, x.charges.chargeableMs),
    (0x41, 4, x.charges.qualifyingMs), (0x45, 2, x.charges.baseMin), (0x47, 1, x.charges.overMin),
    (0x48, 2, x.charges.creditMin), (0x4A, 6, x.charges.baseCharge), (0x50, 6, x.charges.overCharge),
    (0x56, 6, x.charges.credit), (0x5C, 6, x.charges.total), (0x62, 4, x.spans), (0x66, 4, x.longest),
    (0x6A, 4, x.delivered), (0x6E, 6, x.deliveredBytes), (0x74, 4, x.fills), (0x78, 4, x.skipped),
    (0x7C, 4, x.legSwitches)]

/-- The fields of a report from 0x08, by kind; the last offender is that of the moment the write begins (R14;
Tables 9-9 to 9-15). -/
def ReportBody.layout (last : Option Offender) : ReportBody → List ReportField
  | .completion c => c.layout
  | .meter m => m.layout
  | .settlement x => x.layout
  | .health n =>
    [(0x08, 1, n.src.val), (0x09, 1, n.before.code), (0x0A, 1, n.after.code), (0x0B, 1, n.cause.code),
      (0x0C, 1, n.faultMode.code), (0x0D, 1, n.strikes), (0x0E, 1, n.goodRun),
      (0x0F, 1, failureCode? n.failure)] ++ n.snapshot.layout 0x10
  | .leg n =>
    handleAt 0x08 n.handle ++
    [(0x0A, 1, n.before.code), (0x0B, 1, n.after.code), (0x0C, 1, n.forced.code), (0x0D, 1, n.cause.code),
      (0x0E, 1, n.mainHealth.code), (0x0F, 1, healthCode? n.backupHealth)]
  | .lineCheck n =>
    handleAt 0x08 n.handle ++
    [(0x0A, 1, n.result.code), (0x0B, 1, n.trigger.code), (0x0C, 1, n.mainHealth.code),
      (0x0D, 1, healthCode? n.backupHealth)]
  | .onAir n =>
    handleAt 0x08 n.handle ++
    [(0x0A, 1, n.mode.code), (0x0B, 1, legCode? n.active), (0x0C, 1, n.deliverable.toNat),
      (0x0D, 1, n.mainHealth.code), (0x0E, 1, healthCode? n.backupHealth), (0x0F, 1, n.closed),
      (0x10, 6, n.actStart), (0x16, 6, n.endE)] ++ windowsAt 0x1C n.windows
  | .overrun n =>
    handleAt 0x08 n.handle ++ windowsAt 0x0A n.windows ++ [(0x10, 6, n.endE), (0x16, 6, n.capTime)]
  | .rate n =>
    [(0x08, 1, n.src.val), (0x0C, 4, n.overRate), (0x10, 4, n.total), (0x14, 4, n.allowance)]
  | .stray n =>
    [(0x08, 1, n.kind.code), (0x09, 1, n.id.val), (0x10, 8, n.addr)] ++
    countersAt 0x18
      [n.counts.boundary, n.counts.span, n.counts.ingressWrite, n.counts.ingressRead,
        n.counts.deliveryWrite, n.counts.deliveryRead] ++
    (match last with | none => [] | some o => [(0x30, 1, o.id.val), (0x38, 8, o.addr)])
  | .badIndex n =>
    [(0x08, 1, n.word.code), (0x0C, 4, n.value.toNat), (0x10, 2, n.count), (0x12, 2, n.head),
      (0x14, 2, n.other)]

/-- The fields of a report entry: the header of Table 9-8, then those of its kind. -/
def Report.layout (r : Report) (lost : Nat) (last : Option Offender) : List ReportField :=
  [(0x00, 1, r.body.code), (0x01, 2, lost), (0x03, 5, r.created)] ++ r.body.layout last

/-- A record of 128 bytes holds exactly these fields: each has its value, low byte first, and every byte that no
field occupies is 0 (R174). -/
def holdsFields (data : List Byte) (fs : List ReportField) : Prop :=
  data.length = 128 ∧ (∀ f ∈ fs, field data f.1 f.2.1 = f.2.2 % 256 ^ f.2.1) ∧
    ∀ i < 128, (∀ f ∈ fs, ¬(f.1 ≤ i ∧ i < f.1 + f.2.1)) → byteAt data i = 0

/-! ### Orders -/

/-- The response with this tag is the OKAY data of the order fetch at a ring index, while the processor is
FETCHING with its answer's entry reserved, and the data is an order of kind `code` (R28, R29). -/
abbrev State.orderArrives (s : State) (mtag index code : Nat) (entry : List Byte) : Prop :=
  s.port.ownPurpose mtag = some (.orderFetch index) ∧ s.ctl.fetching = true ∧
    s.poster.reserved = true ∧ orderKind entry = code

/-- The row of the table that carries an order entry of kind `code` (Table 9-1); any other code is an unknown
kind's (R32). -/
def orderRow (mtag : Nat) (entry : List Byte) : Nat → Instr
  | 1 => .defineSource mtag entry
  | 2 => .clear mtag entry
  | 3 => .forceLeg mtag entry
  | 4 => .tariff mtag entry
  | 5 => .book mtag entry
  | 6 => .extend mtag entry
  | 7 => .release mtag entry
  | 8 => .cancel mtag entry
  | 9 => .meter mtag entry
  | 10 => .defineWindow mtag entry
  | 11 => .setTime mtag entry
  | 12 => .halt mtag entry
  | _ => .unknownOrderKind mtag entry

/-- The state in which the order of an entry has been refused for a reason: answered, and no more (R31). -/
def State.refusedWith (s : State) (mtag index : Nat) (entry : List Byte) (r : OrderReason) : State :=
  (s.dropResponse mtag).answerOrder
    (.completion { kind := byteAt entry 0, tag := orderTag entry, index, outcome := .refused r })

/-- The state in which an order that has done its work, leaving `s`, has been answered DONE (R31). -/
def State.doneWith (s : State) (index : Nat) (entry : List Byte) (clamped : Bool) (r : OrderResult) :
    State :=
  s.answerOrder
    (.completion { kind := byteAt entry 0, tag := orderTag entry, index, outcome := .done clamped r })

end Sys2Proof.Machine
end

