-- ==== Sys2Proof/Certificates/Slice0/Obligations.lean ====
section
/-! DEFINITION. The statements for the provers, from the numbered rules of spec/. A statement that rests on a
choice of the model's says so and names the log entry. -/

open Sys2Proof Sys2Proof.Machine

/-! ### The queue of commands (the model's own, log 3) -/

/-- A step takes the command at the front of the queue and carries it out on the state with the queue's rest;
on an empty queue the block idles (the model's choice, log 3). -/
def Obligations.StepRunsTheFrontCommand : Prop :=
  (∀ (c : Instr) (rest : List Instr) (s : State),
    step { s with pending := c :: rest } = exec c { s with pending := rest }) ∧
  ∀ s : State, s.pending = [] → step s = .next s

/-- No command stops the part: every command answers a next state, with the queue as it was. The queue is the
model's own (log 26), and a command whose condition does not hold answers the state it found (the model's choice,
log 3); each chapter gives the effect of its own commands where their conditions hold. -/
def Obligations.EveryCommandCompletesAndKeepsTheQueue : Prop :=
  ∀ (c : Instr) (s : State), ∃ t, exec c s = .next t ∧ t.pending = s.pending

/-- The laws of Safety.lean hold right after reset. -/
def Obligations.EveryLawHoldsAtReset : Prop :=
  State.reset.queuesBounded ∧ State.reset.settlementsWait ∧ State.reset.timeLaw ∧
    State.reset.fetchLaw ∧ State.reset.slotLaw ∧ State.reset.healthLaw ∧ State.reset.bindingLaw ∧
    State.reset.bindingSourceLaw ∧ State.reset.holderLaw ∧ State.reset.settlementLaw ∧
    State.reset.calendarLaw ∧ State.reset.useLaw ∧ State.reset.legLaw ∧ State.reset.expiryLaw ∧
    State.reset.aheadLaw

/-! ### RESET (R19, R46, R57) -/

/-- RESET_ASSERT returns every record of every block to its RESET values and answers FAULT, once each, to every
transaction that was accepted and not yet answered; the memory responses that come later are discarded (R19). The
tables are then those of the model's state after reset. That the slot and binding tables have no entry before an
activation is the model's choice (log 18), and so are the zeros of the recorded settings but for the ATTN enable, of
the START value and of the check (log 2). -/
def Obligations.ResetAssertReturnsResetValues : Prop :=
  (∀ s : State, ∃ t, exec .resetAssert s = .next t ∧ t.resetLine = true ∧ t.pending = s.pending ∧
     t.ctl =
       { act := .passive, startValue := 0, rejected := false, check := 0
         settings :=
           { d := 0, z := 0, lmin := 0, preroll := 0, lineWait := 0, attnEnable := false, orderBase := 0,
             orderCount := 0, reportBase := 0, reportCount := 0 }
         tail := 0, head := 0, fetching := false, haltAnswer := none, passiveWait := none } ∧
     t.attn = false ∧
     t.poster =
       { consumer := 0, head := 0, published := 0, publishedTag := none, hold := [], reserved := false,
         lost := 0, posting := none, haltPlaced := false } ∧
     t.time =
       { divisor := 8, prescaler := 0, house := 0, running := false, rateInterval := 1000,
         rateExpiry := none } ∧
     t.port.forwarded = [] ∧ t.port.own = [] ∧ t.port.ownWaiting = [] ∧ t.port.outstanding = [] ∧
     t.port.lastServed = .own ∧
     t.path.ingress = none ∧ t.path.delivery = none ∧ (∀ id : Fin 16, t.path.classMap[id] = .other) ∧
     t.path.stray =
       { counts := ⟨0, 0, 0, 0, 0, 0⟩, lastOffender := none, outstanding := false, index := none } ∧
     (∀ i : Fin 48,
       t.sources[i] =
         { enabled := false, tag := 0, silenceLimit := 1000, faultMode := .latched, strikeLimit := 3,
           recoveryCount := 8, allowance := 0, last := none, newest := none, intervalBytes := 0,
           overRate := 0, accepted := 0, gaps := 0, voids := ⟨0, 0, 0, 0, 0, 0, 0, 0⟩, slots := [] } ∧
       t.health[i] =
         { state := .disabled, strikes := 0, goodRun := 0, silence := none, cause := none } ∧
       t.useCounts[i] = 0) ∧
     (∀ c : Fin 16, t.tariffs[c] =
       { defined := false, base := 0, fan := 0, overrun := 0, credit := 0, grace := 0, threshold := 0,
         lateWindow := 0 }) ∧
     (∀ i : Fin 256, t.legs[i] = none ∧
       t.bookings[i] =
         { gen := 0, state := .free, account := 0, matchRef := 0, main := 0, backup := none,
           mode := .none, revert := false, wtr := 0, windows := [], startS := 0, endE := 0,
           holdOn := false, maxOver := 0
           tariff :=
             { defined := false, base := 0, fan := 0, overrun := 0, credit := 0, grace := 0,
               threshold := 0, lateWindow := 0 }
           meter :=
             { delivered := 0, deliveredBytes := 0, fills := 0, skipped := 0, legSwitches := 0,
               spans := 0, longest := 0, qualifying := 0, openSpan := none }
           actStart := none, actEnd := none, cancelTime := none, endReason := none,
           lineCheck := .idle, prerollExp := none, startExp := none, endExp := none, capExp := none,
           lineExp := none, held := none }) ∧
     (∀ w : Fin 32, t.calendar[w] = [] ∧
       t.windows[w] =
         { defined := false, tag := 0, guard := 2, holder := none, takePending := false, shift := 0,
           last := none, disc := false, dseq := 0, fillRun := 0
           counters := ⟨0, 0, 0, 0, 0, 0, 0, 0⟩, bindings := [] }) ∧
     t.settlements = [] ∧ t.sources = State.reset.sources ∧ t.health = State.reset.health ∧
     t.legs = State.reset.legs ∧ t.tariffs = State.reset.tariffs ∧ t.bookings = State.reset.bookings ∧
     t.windows = State.reset.windows ∧ t.calendar = State.reset.calendar ∧
     t.useCounts = State.reset.useCounts) ∧
  ∀ s t : State, exec .resetAssert s = .next t →
    (∃ l : List Answer, t.port.answers = s.port.answers ++ l ∧
      (∀ a ∈ l, a.resp = .fault) ∧
      l.length =
        (s.port.outstanding.filter fun o => !o.purpose.isOwn).length + s.port.forwarded.length ∧
      (∀ o ∈ s.port.outstanding, ∀ id tag rw, o.purpose = .system id tag rw →
        ({ id, tag, resp := .fault } : Answer) ∈ l) ∧
      ∀ f ∈ s.port.forwarded, ({ id := f.txn.id, tag := f.txn.tag, resp := .fault } : Answer) ∈ l) ∧
    ∀ (mtag : Nat) (r : Resp), exec (.memoryResponse mtag r) t = .next t

/-- RESET_RELEASE samples the straps, places the control page and ends the hold of the system port; with
RESET not asserted it is no event (the model's choice, log 3). -/
def Obligations.ResetReleaseSamplesTheStraps : Prop :=
  ∀ (cpsel : Fin 16) (s : State),
    (s.resetLine = true → ∃ t, exec (.resetRelease cpsel) s = .next t ∧ t.resetLine = false ∧
      t.path.cpsel = cpsel ∧ t.path.pageBase = 268435456 * cpsel.val ∧ t.ctl = s.ctl ∧
      t.time = s.time) ∧
    (s.resetLine = true → s.port.heldOff = [] →
      exec (.resetRelease cpsel) s =
        .next { s with
          resetLine := false
          path :=
            { cpsel, ingress := none, delivery := none, classMap := Vector.replicate 16 .other,
              stray :=
                { counts := ⟨0, 0, 0, 0, 0, 0⟩, lastOffender := none, outstanding := false,
                  index := none } } }) ∧
    (s.resetLine = false → exec (.resetRelease cpsel) s = .next s)

/-! ### House time (R47, R49, R54, R74) -/

/-- A house tick and a REFCLK edge. A tick leaves no expiry behind (R51): those still due are taken first, each as
the event of its own row, and only then is house time raised, so that right after the tick no armed expiry lies
behind house time. (The premises of that clause are invariants stated below. The order in which a tick takes what
is still due, and that the HOUSE_TICK command stands for the edges still wanting, are the model's choices, log 5.)
A command whose condition does not hold is no event (the model's choice, log 3). -/
def Obligations.HouseTimeAdvancesAtTicks : Prop :=
  (∀ s : State, s.time.house ≤ 2 ^ 40 - 1 →
    let raised := fun v : State =>
      { v with
        time := { v.time with
          prescaler := 0
          house := if s.time.house = 2 ^ 40 - 1 then 2 ^ 40 - 1 else s.time.house + 1 } }
    (s.time.running = true → s.anyDue = false → exec .houseTick s = .next (raised s)) ∧
    (s.time.running = true →
      ∃ (cs : List Instr) (v : State), (∀ c ∈ cs, takesExpiry c = true) ∧ execAll cs s = .next v ∧
        exec .houseTick s = .next (raised v) ∧ v.time = { s.time with rateExpiry := v.time.rateExpiry } ∧
        v.port = s.port ∧ v.path = s.path ∧ v.ctl = s.ctl ∧ v.pending = s.pending) ∧
    (s.time.running = true → s.time.prescaler + 1 < s.time.divisor →
      exec .refclkEdge s =
        .next { s with time := { s.time with prescaler := s.time.prescaler + 1 } }) ∧
    (s.time.running = true → s.time.prescaler + 1 = s.time.divisor →
      exec .refclkEdge s = exec .houseTick s) ∧
    (s.time.running = false → exec .houseTick s = .next s ∧ exec .refclkEdge s = .next s)) ∧
  (∀ s : State, s.anyDue = false ↔
    (∀ e, s.time.rateExpiry = some e → s.time.house < e) ∧
    (∀ (i : Fin 48) (e : Nat), s.health[i].silence = some e → s.time.house < e) ∧
    (∀ (i : Fin 256) (l : Leg) (e : Nat), s.legs[i] = some l → l.wtrExp = some e → s.time.house < e) ∧
    ∀ (i : Fin 256) (e : Nat),
      (s.bookings[i].prerollExp = some e ∨ s.bookings[i].startExp = some e ∨
        s.bookings[i].endExp = some e ∨ s.bookings[i].capExp = some e ∨
        s.bookings[i].lineExp = some e) → s.time.house < e) ∧
  ∀ s : State, s.time.running = true → s.timeLaw → s.aheadLaw → s.holderLaw → s.settlementLaw →
    s.legLaw → s.expiryLaw → ∃ t, exec .houseTick s = .next t ∧ t.noneBehind

/-- The rate-interval expiry stays on its grid, ends every source's interval, and raises the RATE notices in
ascending order of source. -/
def Obligations.RateIntervalExpiryEndsTheInterval : Prop :=
  ∀ (s : State) (due : Nat), s.time.rateExpiry = some due → due ≤ s.time.house →
    ∃ t, exec .rateIntervalExpiry s = .next t ∧
      t.time = { s.time with rateExpiry := some (due + s.time.rateInterval) } ∧
      (∀ i : Fin 48, t.sources[i] = { s.sources[i] with intervalBytes := 0, overRate := 0 }) ∧
      (s.poster.haltPlaced = false →
        ((List.finRange 48).filter fun i => s.sources[i].overRate != 0).length + 4 ≤ s.poster.free →
        t.poster =
          { s.poster with
            hold := s.poster.hold ++
              ((List.finRange 48).filter fun i => s.sources[i].overRate != 0).map fun i =>
                { created := s.time.house,
                  body := .rate
                    { src := i, overRate := s.sources[i].overRate,
                      total := s.sources[i].intervalBytes,
                      allowance := s.sources[i].allowance } } }) ∧
      t.pending = s.pending ∧ t.path = s.path ∧ t.port = s.port ∧ t.ctl = s.ctl ∧
      t.health = s.health ∧ t.legs = s.legs ∧ t.tariffs = s.tariffs ∧ t.bookings = s.bookings ∧
      t.calendar = s.calendar ∧ t.useCounts = s.useCounts ∧ t.windows = s.windows ∧
      t.settlements = s.settlements

/-- House time decreases at no command but SET_TIME, RESET_ASSERT and the start at an activation (R50). -/
def Obligations.HouseTimeNeverDecreases : Prop :=
  ∀ (c : Instr) (s t : State), s.timeLaw → exec c s = .next t →
    (match c with
      | .setTime _ _ | .resetAssert | .settingsLoadResponse _ _ => True
      | _ => s.time.house ≤ t.time.house)

/-- SET_TIME (R55, R56): refused RANGE or BUSY, or every armed expiry keeps its remaining time. -/
def Obligations.SetTimeMovesEveryExpiry : Prop :=
  ∀ (s : State) (mtag index : Nat) (entry : List Byte),
    s.orderArrives mtag index 11 entry → shapeOk 11 entry = true →
    (2 ^ 40 - 1 < field entry 8 8 →
      exec (.setTime mtag entry) s = .next (s.refusedWith mtag index entry .range)) ∧
    (field entry 8 8 ≤ 2 ^ 40 - 1 → (∃ i : Fin 256, s.bookings[i].state ≠ .free) →
      exec (.setTime mtag entry) s = .next (s.refusedWith mtag index entry .busy)) ∧
    (field entry 8 8 ≤ 2 ^ 40 - 1 → (∀ i : Fin 256, s.bookings[i].state = .free) →
      ∃ u : State, exec (.setTime mtag entry) s =
          .next (u.doneWith index entry false (.setTime s.time.house (field entry 8 8))) ∧
        u.time.house = field entry 8 8 ∧ u.time.prescaler = 0 ∧ u.time.running = s.time.running ∧
        u.time.rateExpiry =
          s.time.rateExpiry.map (fun e => e + field entry 8 8 - s.time.house) ∧
        (∀ i : Fin 48, u.health[i] =
          { s.health[i] with
            silence := s.health[i].silence.map fun e => e + field entry 8 8 - s.time.house }) ∧
        u.port = s.port.drop mtag ∧ u.ctl = s.ctl ∧ u.poster = s.poster ∧ u.path = s.path ∧
        u.sources = s.sources ∧ u.windows = s.windows ∧ u.tariffs = s.tariffs ∧
        u.calendar = s.calendar ∧ u.useCounts = s.useCounts ∧ u.settlements = s.settlements ∧
        ∀ i : Fin 256, u.bookings[i].state = .free ∧ u.bookings[i].gen = s.bookings[i].gen)

/-! ### The system port (R3, R6 to R8, R13, R14, R16) -/

/-- In PASSIVE and LOADING every transaction is placed in the forwarded stream unchanged; while the port holds
off, it waits (how the waiting is held is the model's choice, log 6). In the decoding mode a transaction that
the decode forwards enters the stream with its initiator's class. Nothing else changes. -/
def Obligations.ForwardedTrafficEntersTheStream : Prop :=
  (∀ (t : Txn) (c : Instr) (s : State), presents t c →
     (s.holdsOff = false → (s.ctl.act = .passive ∨ s.ctl.act = .loading) →
       exec c s = .next (s.entered { txn := t, cls := .other, rewrite := none })) ∧
     (s.holdsOff = true →
       exec c s = .next { s with port := { s.port with heldOff := s.port.heldOff ++ [t] } }) ∧
     (16 ≤ s.port.forwarded.length → s.holdsOff = true)) ∧
  ∀ (t : Txn) (c : Instr) (s : State), presents t c → s.decodes t .forward →
    exec c s = .next (s.entered { txn := t, cls := s.path.classMap[t.id], rewrite := none })

/-- The decode of Table 1-1, for disjoint ring regions. -/
def Obligations.DecodeFollowsTheTable : Prop :=
  ∀ (s : State) (t : Txn) (cls : InitiatorClass) (ib db : Nat),
    0 < s.ctl.settings.d → 0 < s.ctl.settings.z → 1 ≤ t.access.length →
    s.path.ingress = some { base := ib, size := 48 * s.ctl.settings.d * s.ctl.settings.z } →
    s.path.delivery = some { base := db, size := 32 * s.ctl.settings.d * s.ctl.settings.z } →
    (ib + 48 * s.ctl.settings.d * s.ctl.settings.z ≤ db ∨
      db + 32 * s.ctl.settings.d * s.ctl.settings.z ≤ ib) →
    let d := s.ctl.settings.d
    let z := s.ctl.settings.z
    let a := t.addr
    let e := t.addr + t.access.length
    let inI := ib ≤ a ∧ e ≤ ib + 48 * d * z
    let inD := db ≤ a ∧ e ≤ db + 32 * d * z
    let outI := e ≤ ib ∨ ib + 48 * d * z ≤ a
    let outD := e ≤ db ∨ db + 32 * d * z ≤ a
    ((¬inI ∧ ¬outI) ∨ (¬inD ∧ ¬outD) → s.decode t cls = .refuse .boundary) ∧
    (outI ∧ outD → s.decode t cls = .forward) ∧
    (inI → t.access.isWrite = true → cls = .ingress → (a - ib) % z + t.access.length ≤ z →
      ∃ src k off, s.decode t cls = .check src k off ∧ k < d ∧
        a = ib + (src.val * d + k) * z + off ∧ off + t.access.length ≤ z) ∧
    (inI → t.access.isWrite = true → cls = .ingress → z < (a - ib) % z + t.access.length →
      s.decode t cls = .refuse .span) ∧
    (inI → t.access.isWrite = true → cls ≠ .ingress → s.decode t cls = .refuse .ingressWrite) ∧
    (inI → t.access.isWrite = false → cls = .egress → s.decode t cls = .refuse .ingressRead) ∧
    (inI → t.access.isWrite = false → cls ≠ .egress → s.decode t cls = .forward) ∧
    (inD → t.access.isWrite = true → s.decode t cls = .refuse .deliveryWrite) ∧
    (inD → t.access.isWrite = false → cls ≠ .egress → s.decode t cls = .refuse .deliveryRead) ∧
    (inD → t.access.isWrite = false → cls = .egress → z < (a - db) % z + t.access.length →
      s.decode t cls = .refuse .span) ∧
    (inD → t.access.isWrite = false → cls = .egress → (a - db) % z + t.access.length ≤ z →
      ∃ w k off, s.decode t cls = .translate w k off ∧ k < d ∧
        a = db + (w.val * d + k) * z + off ∧ off + t.access.length ≤ z)

/-- A refused transaction is answered FAULT and counted, becomes the last offender, and raises one STRAY
notice when none is outstanding. -/
def Obligations.RefusedTransactionIsCounted : Prop :=
  ∀ (t : Txn) (c : Instr) (s : State) (kind : StrayKind), presents t c → s.decodes t (.refuse kind) →
    ∃ (counts : StrayCounts) (u : State), exec c s = .next u ∧
      (∀ k, strayCount counts k =
        if k = kind then min 4294967295 (strayCount s.path.stray.counts k + 1)
        else strayCount s.path.stray.counts k) ∧
      (s.path.stray.outstanding = true →
        u = { s.answered t .fault with
          path := { s.path with
            stray := { s.path.stray with counts, lastOffender := some { id := t.id, addr := t.addr } } } }) ∧
      (s.path.stray.outstanding = false →
        u = State.offer (.stray { kind, id := t.id, addr := t.addr, counts })
          { s.answered t .fault with
            path := { s.path with
              stray := { s.path.stray with
                counts, lastOffender := some { id := t.id, addr := t.addr },
                outstanding := s.poster.accepts } } })

/-! ### Arrivals (R60, R63 to R73) -/

/-- A write handed to the arrival checker is a payload write, a header commit or a torn commit (R60); the eight
checks are made in their order (Table 4-2), and five of the causes are impairments. -/
def Obligations.ArrivalsAreClassedAndJudged : Prop :=
  (∀ (off : Nat) (bytes : List (Byte × Bool)),
     (32 ≤ off → classifyWrite off bytes = .payload) ∧
     (off = 0 → 32 ≤ bytes.length → (∀ b ∈ bytes.take 32, b.2 = true) →
       classifyWrite off bytes = .commit) ∧
     (off < 32 → (off ≠ 0 ∨ bytes.length < 32 ∨ ∃ b ∈ bytes.take 32, b.2 = false) →
       classifyWrite off bytes = .torn)) ∧
  (∀ (r : Source) (c : VoidCause), arrivalClass r (.voided c) = .voidImpairing ↔
     c = .torn ∨ c = .check ∨ c = .tag ∨ c = .length ∨ c = .misplaced) ∧
  ∀ (g : Settings) (h : Health) (r : Source) (k : Nat) (w : List Byte),
    (h.state = .failed → r.faultMode = .latched →
      ∀ hdr, judgeArrival g h r k hdr = .voided .held) ∧
    (¬(h.state = .failed ∧ r.faultMode = .latched) →
      judgeArrival g h r k none = .voided .torn ∧
      (headerCheck w ≠ xor16 (headerBody w) → judgeArrival g h r k (some w) = .voided .check) ∧
      (headerCheck w = xor16 (headerBody w) →
        (headerTag w ≠ r.tag → judgeArrival g h r k (some w) = .voided .tag) ∧
        (headerTag w = r.tag →
          (headerLength w < g.lmin ∨ g.z < headerLength w + 32 →
            judgeArrival g h r k (some w) = .voided .length) ∧
          (g.lmin ≤ headerLength w → headerLength w + 32 ≤ g.z →
            ((headerSeq w).toNat % g.d ≠ k → judgeArrival g h r k (some w) = .voided .misplaced) ∧
            ((headerSeq w).toNat % g.d = k →
              (∀ l, r.last = some l →
                ((headerSeq w - l).toNat = 0 ∨ 32768 ≤ (headerSeq w - l).toNat) →
                judgeArrival g h r k (some w) = .voided .stale) ∧
              ((∀ l, r.last = some l →
                  1 ≤ (headerSeq w - l).toNat ∧ (headerSeq w - l).toNat ≤ 32767) →
                (r.allowance ≠ 0 → r.allowance < r.intervalBytes + headerLength w →
                  judgeArrival g h r k (some w) = .voided .overRate) ∧
                (r.allowance = 0 ∨ r.intervalBytes + headerLength w ≤ r.allowance →
                  judgeArrival g h r k (some w) =
                    .accepted (headerSeq w) (headerLength w))))))))

/-- An accepted header commit: the write is forwarded, the source record and its slot table take the packet, and
every other valid entry newer than it is aged; then, in the same event, the health unit takes the arrival, as
ACCEPTED_GAP when packets are missing before it and as ACCEPTED otherwise (R70, R73), with all that a change of
health does (R88). -/
def Obligations.AcceptedCommitEntersTheSlotTable : Prop :=
  ∀ (t : Txn) (s : State) (src : Fin 48) (k : Nat) (bytes : List (Byte × Bool)) (q : Word16) (len : Nat),
    s.decodes t (.check src k 0) → t.access = .write bytes → classifyWrite 0 bytes = .commit →
    s.sources[src].enabled = true →
    judgeArrival s.ctl.settings s.health[src] s.sources[src] k (some (commitHeader bytes)) =
      .accepted q len →
    let gap := ∃ l, s.sources[src].last = some l ∧ 1 < (q - l).toNat
    ∃ u, exec (.ingressWrite t) s = .next u ∧
      (∃ (c : ArrivalClass) (hc : HealthCause),
        (gap → c = .acceptedGap ∧ hc = .gap) ∧ (¬gap → c = .accepted ∧ hc = .accepted) ∧
        u = State.setHealth src (s.health[src].afterArrival u.sources[src] s.time.house c) hc
          { s.entered { txn := t, cls := s.path.classMap[t.id], rewrite := none } with
            sources := s.sources.set src u.sources[src] }) ∧
      u.port = (s.entered { txn := t, cls := s.path.classMap[t.id], rewrite := none }).port ∧
      u.sources[src] =
        { s.sources[src] with
          last := some q, newest := some k
          intervalBytes := min 4294967295 (s.sources[src].intervalBytes + len)
          accepted := min 4294967295 (s.sources[src].accepted + 1)
          gaps := min 4294967295 (s.sources[src].gaps +
            match s.sources[src].last with
            | none => 0
            | some l => (q - l).toNat - 1)
          slots := u.sources[src].slots } ∧
      (k < s.sources[src].slots.length →
        u.sources[src].slots[k]? = some (some { seq := q, len })) ∧
      (∀ j, j ≠ k → u.sources[src].slots[j]? =
        (s.sources[src].slots[j]?).map fun e =>
          match e with
          | none => none
          | some x => if newer x.seq q then none else some x) ∧
      ((∀ l, s.sources[src].last = some l → (q - l).toNat = 1) →
        u.health[src].silence = some (s.time.house + s.sources[src].silenceLimit)) ∧
      (∀ i, i ≠ src → u.sources[i] = s.sources[i] ∧ u.health[i] = s.health[i]) ∧
      u.windows = s.windows ∧ u.path = s.path ∧ u.ctl = s.ctl ∧ u.time = s.time ∧
      u.tariffs = s.tariffs ∧ u.calendar = s.calendar ∧ u.useCounts = s.useCounts ∧
      u.settlements = s.settlements ∧ s.bookingsQuiet u

/-- A voided arrival: the write is forwarded all the same, the slot entry becomes invalid, and the counter
of the one cause is raised; then the health unit takes it as an impairing or a neutral void, and a change of health
names the void's cause (R73, R88, R91). A payload write and an arrival of a source that is not enabled are
forwarded and do nothing else (R60, R61). -/
def Obligations.VoidedArrivalInvalidatesItsSlot : Prop :=
  (∀ (t : Txn) (s : State) (src : Fin 48) (k off : Nat) (bytes : List (Byte × Bool)),
    s.decodes t (.check src k off) → t.access = .write bytes →
    (classifyWrite off bytes = .payload ∨ s.sources[src].enabled = false) →
    exec (.ingressWrite t) s =
      .next (s.entered { txn := t, cls := s.path.classMap[t.id], rewrite := none })) ∧
  ∀ (t : Txn) (s : State) (src : Fin 48) (k off : Nat) (bytes : List (Byte × Bool)) (cause : VoidCause),
    s.decodes t (.check src k off) → t.access = .write bytes → s.sources[src].enabled = true →
    ((classifyWrite off bytes = .commit ∧
        judgeArrival s.ctl.settings s.health[src] s.sources[src] k (some (commitHeader bytes)) =
          .voided cause) ∨
      (classifyWrite off bytes = .torn ∧
        judgeArrival s.ctl.settings s.health[src] s.sources[src] k none = .voided cause)) →
    let neutral := cause = .held ∨ cause = .stale ∨ cause = .overRate
    ∃ u, exec (.ingressWrite t) s = .next u ∧
      (∃ (c : ArrivalClass) (hc : HealthCause),
        (neutral → c = .voidNeutral) ∧ (¬neutral → c = .voidImpairing) ∧
        (cause = .torn → hc = .torn) ∧ (cause = .check → hc = .check) ∧ (cause = .tag → hc = .tag) ∧
        (cause = .length → hc = .length) ∧ (cause = .misplaced → hc = .misplaced) ∧
        u = State.setHealth src (s.health[src].afterArrival u.sources[src] s.time.house c) hc
          { s.entered { txn := t, cls := s.path.classMap[t.id], rewrite := none } with
            sources := s.sources.set src u.sources[src] }) ∧
      u.port = (s.entered { txn := t, cls := s.path.classMap[t.id], rewrite := none }).port ∧
      u.sources[src] =
        { s.sources[src] with
          slots := s.sources[src].slots.set k none
          voids := u.sources[src].voids
          overRate := if cause = .overRate then min 4294967295 (s.sources[src].overRate + 1)
            else s.sources[src].overRate } ∧
      (∀ c, voidCount u.sources[src].voids c =
        if c = cause then min 4294967295 (voidCount s.sources[src].voids c + 1)
        else voidCount s.sources[src].voids c) ∧
      (neutral →
        u.health = s.health ∧ u.poster = s.poster ∧ u.bookings = s.bookings ∧ u.legs = s.legs) ∧
      (∀ i, i ≠ src → u.sources[i] = s.sources[i] ∧ u.health[i] = s.health[i]) ∧
      u.windows = s.windows ∧ u.path = s.path ∧ u.ctl = s.ctl ∧ u.time = s.time ∧
      u.tariffs = s.tariffs ∧ u.calendar = s.calendar ∧ u.useCounts = s.useCounts ∧
      u.settlements = s.settlements ∧ s.bookingsQuiet u

/-! ### Reads of a window (R134 to R145) -/

/-- The usable legs of a booking: those its mode admits whose source is available, in the order they are tried
(R135). Then the stages of a header read's decision, for a window record `w` at slot `k`. (Where no last delivered
sequence is present, every valid entry counts as newer: the model's reading, log 19.) -/
def Obligations.HeaderReadDecisionStages : Prop :=
  (∀ (s : State) (i : Fin 256),
    let b := s.bookings[i]
    let up := fun x : Fin 48 => s.health[x].state = .good ∨ s.health[x].state = .suspect
    let one := fun (l : LegName) (x : Fin 48) => if up x then [(l, x)] else []
    let main := one .main b.main
    let backup := match b.backup with
      | none => []
      | some x => one .backup x
    (b.mode = .none → s.usableLegs i = main) ∧
    (b.mode = .merge → s.usableLegs i = main ++ backup) ∧
    (b.mode = .switch → ∀ l, s.legs[i] = some l →
      (l.active = some .main → s.usableLegs i = main) ∧
      (l.active = some .backup → s.usableLegs i = backup) ∧
      (l.active = none → s.usableLegs i = [])) ∧
    (b.mode = .switch → s.legs[i] = none → s.usableLegs i = [])) ∧
  ∀ (s : State) (w : Window) (k : Nat),
    let m := (k + w.shift) % s.ctl.settings.d
    (w.holder = none → s.headerDecision w k = .fill w .unrouted) ∧
    ∀ h, w.holder = some h →
      (s.usableLegs h.index = [] → s.headerDecision w k = .fill w .sourceDown) ∧
      (∀ leg rest, s.usableLegs h.index = leg :: rest → w.takePending = true →
        (s.sources[leg.2].newest = none ∨ s.sources[leg.2].last = none) →
        s.headerDecision w k = .fill w .noBaseline) ∧
      (∀ leg rest n sh, s.usableLegs h.index = leg :: rest → w.takePending = true →
        s.sources[leg.2].newest = some n → s.sources[leg.2].last = some sh →
        s.headerDecision w k =
          s.headerDecision
            { w with
              shift := ((n + (s.ctl.settings.d - w.guard)) % s.ctl.settings.d +
                (s.ctl.settings.d - k)) % s.ctl.settings.d
              last :=
                if w.bindings.any (Binding.newerThan (sh - BitVec.ofNat 16 (w.guard + 1))) then w.last
                else some (sh - BitVec.ofNat 16 (w.guard + 1))
              takePending := false, disc := true } k) ∧
      (∀ pre leg x post e, s.usableLegs h.index = pre ++ (leg, x) :: post → w.takePending = false →
        (∀ p ∈ pre, ∀ y, s.slotOf p.2 m = some y → newerThan y.seq w.last = false) →
        s.slotOf x m = some e → newerThan e.seq w.last = true →
        s.headerDecision w k = .deliver w leg x m e) ∧
      (s.usableLegs h.index ≠ [] → w.takePending = false →
        (∀ p ∈ s.usableLegs h.index, ∀ y, s.slotOf p.2 m = some y → newerThan y.seq w.last = false) →
        s.headerDecision w k =
          .fill w (if ∃ p ∈ s.usableLegs h.index, (s.slotOf p.2 m).isSome then .underrun else .void))

/-- A delivery: the translated read enters the stream at the bound slot with its header rewrite, and the
window and the meter take the packet; no other window, and no source, changes. (Where no last delivered sequence is
present the distance is taken as 1: the model's reading, log 19.) -/
def Obligations.HeaderReadDeliversTheCandidate : Prop :=
  ∀ (t : Txn) (s : State) (i : Fin 32) (k m : Nat) (w : Window) (h : Handle) (leg : LegName)
    (src : Fin 48) (e : SlotEntry) (r : Region),
    s.decodes t (.translate i k 0) → s.headerDecision s.windows[i] k = .deliver w leg src m e →
    w.holder = some h → s.path.ingress = some r →
    let dist := match w.last with
      | none => 1
      | some l => (e.seq - l).toNat
    ∃ u, exec (.headerRead t) s = .next u ∧
      u.port = (s.entered
        { txn := { t with addr := r.base + (src.val * s.ctl.settings.d + m) * s.ctl.settings.z }
          cls := .egress
          rewrite := some
            { tag := w.tag, seq := w.dseq, disc := w.disc || decide (1 < dist),
              backup := leg == .backup } }).port ∧
      u.windows[i] =
        { w with
          bindings := u.windows[i].bindings, last := some e.seq, dseq := w.dseq + 1, fillRun := 0
          disc := false, takePending := w.takePending || decide (s.ctl.settings.d ≤ dist)
          counters := { w.counters with
            delivered := min 4294967295 (w.counters.delivered + 1)
            skipped := min 4294967295 (w.counters.skipped + (dist - 1))
            realigns := if s.ctl.settings.d ≤ dist then min 4294967295 (w.counters.realigns + 1)
              else w.counters.realigns } } ∧
      (k < w.bindings.length →
        u.windows[i].bindings[k]? = some (.source src m e.seq e.len leg)) ∧
      (∀ j, j ≠ k → u.windows[i].bindings[j]? =
        (w.bindings[j]?).map fun x => if x.newerThan e.seq then .fill else x) ∧
      u.bookings[h.index] =
        { s.bookings[h.index] with
          meter := { s.bookings[h.index].meter with
            delivered := min 4294967295 (s.bookings[h.index].meter.delivered + 1)
            deliveredBytes := min (2 ^ 48 - 1) (s.bookings[h.index].meter.deliveredBytes + e.len)
            skipped := min 4294967295 (s.bookings[h.index].meter.skipped + (dist - 1)) } } ∧
      (∀ j, j ≠ h.index → u.bookings[j] = s.bookings[j]) ∧
      (∀ j, j ≠ i → u.windows[j] = s.windows[j]) ∧
      u = { s with port := u.port, windows := u.windows, bookings := u.bookings }

/-- A fill: the read is answered at once with the fill header and zeros, the delivery sequence advances, and
the reason is counted; a held window's meter is fed. The discontinuity mark stays as it is (R144), and so do the
tag, the guard depth and the counters that the fill does not name. A read of exactly 31 bytes has a free value in its last
byte (log 14). -/
def Obligations.HeaderReadFills : Prop :=
  ∀ (t : Txn) (s : State) (i : Fin 32) (k : Nat) (w : Window) (reason : FillReason),
    s.decodes t (.translate i k 0) → s.headerDecision s.windows[i] k = .fill w reason →
    ∃ (data : List Byte) (u : State), exec (.headerRead t) s = .next u ∧
      u.port.answers = s.port.answers ++ [{ id := t.id, tag := t.tag, resp := .okay data }] ∧
      u.port.forwarded = s.port.forwarded ∧ u.port.own = s.port.own ∧
      u.port.outstanding = s.port.outstanding ∧
      data.length = t.access.length ∧
      (t.access.length ≠ 31 → data =
        ((fillBody w.tag w.dseq w.disc ++ checkBytes (fillBody w.tag w.dseq w.disc) ++
          List.replicate (t.access.length - 32) 0).take t.access.length)) ∧
      u.windows[i].dseq = w.dseq + 1 ∧ u.windows[i].last = w.last ∧ u.windows[i].shift = w.shift ∧
      u.windows[i].holder = w.holder ∧
      (∀ c, fillCount u.windows[i].counters c =
        if c = reason then min 4294967295 (fillCount w.counters c + 1) else fillCount w.counters c) ∧
      u.windows[i] =
        { w with
          dseq := w.dseq + 1, bindings := u.windows[i].bindings, fillRun := u.windows[i].fillRun
          takePending := u.windows[i].takePending
          counters := { u.windows[i].counters with
            delivered := w.counters.delivered, skipped := w.counters.skipped } } ∧
      (¬((reason = .underrun ∨ reason = .void) ∧ s.ctl.settings.d ≤ w.fillRun + 1) →
        u.windows[i].counters.realigns = w.counters.realigns) ∧
      (reason = .unrouted → u.windows[i].bindings = w.bindings ∧
        u.windows[i].takePending = w.takePending ∧
        u.windows[i].fillRun = w.fillRun ∧ u.bookings = s.bookings) ∧
      (reason ≠ .unrouted → u.windows[i].bindings = w.bindings.set k .fill) ∧
      (reason = .sourceDown ∨ reason = .noBaseline →
        u.windows[i].fillRun = w.fillRun ∧ u.windows[i].takePending = w.takePending) ∧
      (reason = .underrun ∨ reason = .void →
        (w.fillRun + 1 < s.ctl.settings.d →
          u.windows[i].fillRun = w.fillRun + 1 ∧ u.windows[i].takePending = w.takePending) ∧
        (s.ctl.settings.d ≤ w.fillRun + 1 →
          u.windows[i].fillRun = 0 ∧ u.windows[i].takePending = true ∧
          u.windows[i].counters.realigns = min 4294967295 (w.counters.realigns + 1))) ∧
      (reason ≠ .unrouted → ∀ h, w.holder = some h →
        u.bookings[h.index] =
          { s.bookings[h.index] with
            meter := { s.bookings[h.index].meter with
              fills := min 4294967295 (s.bookings[h.index].meter.fills + 1) } } ∧
        ∀ j, j ≠ h.index → u.bookings[j] = s.bookings[j]) ∧
      (∀ j, j ≠ i → u.windows[j] = s.windows[j]) ∧
      u = { s with port := u.port, windows := u.windows, bookings := u.bookings }

/-- A payload read follows the binding of its slot and changes no window, booking or counter. -/
def Obligations.PayloadReadFollowsTheBinding : Prop :=
  ∀ (t : Txn) (s : State) (i : Fin 32) (k off : Nat) (r : Region),
    s.decodes t (.translate i k off) → off ≠ 0 → s.path.ingress = some r →
    (∀ src m q len leg, s.windows[i].bindings[k]? = some (.source src m q len leg) →
      exec (.payloadRead t) s = .next (s.entered
        { txn := { t with
            addr := r.base + (src.val * s.ctl.settings.d + m) * s.ctl.settings.z + off }
          cls := .egress, rewrite := none })) ∧
    ((∀ src m q len leg, s.windows[i].bindings[k]? ≠ some (.source src m q len leg)) →
      exec (.payloadRead t) s = .next (s.answered t (.okay (List.replicate t.access.length 0))))

/-! ### The memory port (R2, R9, R10, R12, R16 to R18) -/

/-- The arbiter: a stream that waits alone is issued from; when both wait, the one not served last. The oldest
entry goes out under the next memory-port tag, and the record names the stream. A forwarded transaction's
watched words are then handed on, and transactions held off may enter (held transactions and tags are the
model's own, logs 6 and 8). Own traffic joins its queue while the queue holds fewer than 8 entries and no block
waits, else it waits in a list of its own while its event goes on (the model's choice, log 22); OWN_TRAFFIC_PLACE
places the entry that has waited longest.
A command whose condition does not hold is no event (the model's choice, log 3). -/
def Obligations.MemoryPortIssueAlternates : Prop :=
  (∀ s : State,
     (s.port.forwarded = [] → s.port.own = [] → exec .memoryPortIssue s = .next s) ∧
     (∀ x rest, s.port.own = x :: rest →
       (s.port.forwarded = [] ∨ s.port.lastServed = .forwarded) →
       exec .memoryPortIssue s =
         .next { s with
           port := { s.port with
             own := rest, lastServed := .own, nextTag := s.port.nextTag + 1
             outstanding := s.port.outstanding ++
               [{ mtag := s.port.nextTag, addr := x.addr, access := x.access,
                  purpose := .own x.purpose }] } }) ∧
     (∀ f rest, s.port.forwarded = f :: rest → (s.port.own = [] ∨ s.port.lastServed = .own) →
       exec .memoryPortIssue s =
         .next (State.acceptHeld (State.handOffs f
           { s with
             port := { s.port with
               forwarded := rest, lastServed := .forwarded, nextTag := s.port.nextTag + 1
               outstanding := s.port.outstanding ++
                 [{ mtag := s.port.nextTag, addr := f.txn.addr, access := f.txn.access,
                    purpose := .system f.txn.id f.txn.tag f.rewrite }] } }))) ∧
     ((s.port.heldOff = [] ∨ s.resetLine = true ∨ 16 ≤ s.port.forwarded.length) → s.acceptHeld = s) ∧
     (∀ t rest, s.port.heldOff = t :: rest → s.resetLine = false → s.port.forwarded.length < 16 →
       s.acceptHeld =
         State.acceptHeld (State.accept t { s with port := { s.port with heldOff := rest } }))) ∧
  ∀ (s : State) (x : OwnTxn),
    (s.port.own.length < 8 → s.port.ownWaiting = [] →
      s.place x = { s with port := { s.port with own := s.port.own ++ [x] } }) ∧
    ((8 ≤ s.port.own.length ∨ s.port.ownWaiting ≠ []) →
      s.place x = { s with port := { s.port with ownWaiting := s.port.ownWaiting ++ [x] } }) ∧
    (∀ rest, s.port.ownWaiting = x :: rest → s.port.own.length < 8 →
      exec .ownTrafficPlace s =
        .next { s with port := { s.port with own := s.port.own ++ [x], ownWaiting := rest } }) ∧
    ((s.port.ownWaiting = [] ∨ 8 ≤ s.port.own.length) → exec .ownTrafficPlace s = .next s)

/-- What a transaction hands on at its issue: a write hands on each watched word that it covers with all four
bytes, one, two or three of them, in ascending offset order, with the value written; a read, a write with a byte
of the word not enabled, or a write that covers no watched word whole, nothing (a byte not enabled does not cover
its word: the model's reading, log 11). -/
def Obligations.WatchedWordsAreHandedOn : Prop :=
  ∀ (f : Forwarded) (s : State) (bytes : List (Byte × Bool)),
    let a := f.txn.addr
    let base := s.path.pageBase
    let data := bytes.map fun b => b.1
    (∀ n, f.txn.access = .read n → s.handOffs f = s) ∧
    let covers := fun (w : WatchedWord) => a ≤ base + w.offset ∧ base + w.offset + 4 ≤ a + bytes.length ∧
      ∀ j < 4, (bytes[base + w.offset - a + j]?.map fun b => b.2) = some true
    let give := fun (w : WatchedWord) (v : State) =>
      v.handOff w f.cls (word32At data (base + w.offset - a))
    (WatchedWord.start.offset = 0x100 ∧ WatchedWord.orderTail.offset = 0x200 ∧
      WatchedWord.reportConsumer.offset = 0x300) ∧
    (f.txn.access = .write bytes → ∃ v1 v2 v3 : State, s.handOffs f = v3 ∧
      (covers .start → v1 = give .start s) ∧ (¬covers .start → v1 = s) ∧
      (covers .orderTail → v2 = give .orderTail v1) ∧ (¬covers .orderTail → v2 = v1) ∧
      (covers .reportConsumer → v3 = give .reportConsumer v2) ∧ (¬covers .reportConsumer → v3 = v2)) ∧
    (f.txn.access = .write bytes →
      (∀ w : WatchedWord, a = base + w.offset → bytes.length = 4 →
        ((∀ b ∈ bytes, b.2 = true) → s.handOffs f = s.handOff w f.cls (word32At data 0)) ∧
        ((∃ b ∈ bytes, b.2 = false) → s.handOffs f = s)) ∧
      ((∀ w : WatchedWord, a + bytes.length < base + w.offset + 4 ∨ base + w.offset < a) →
        s.handOffs f = s) ∧
      ((∀ b ∈ bytes, b.2 = true) → a ≤ base + 0x100 → base + 0x304 ≤ a + bytes.length →
        s.handOffs f =
          ((s.handOff .start f.cls (word32At data (base + 0x100 - a))).handOff .orderTail f.cls
            (word32At data (base + 0x200 - a))).handOff .reportConsumer f.cls
            (word32At data (base + 0x300 - a))))

/-- A memory response to a transaction of the system port is returned to its initiator: memory's answer as it
is, or, for the OKAY data of a translated header read, with words 0, 1, 3 and 15 rewritten as far as
the read covers them (of exactly 31 bytes, the last is a free value, log 14). A response that matches no
transaction is discarded. -/
def Obligations.MemoryResponseIsReturned : Prop :=
  ∀ (mtag : Nat) (r : Resp) (s : State),
    (s.port.find mtag = none → exec (.memoryResponse mtag r) s = .next s) ∧
    ∀ o id tag rw, s.port.find mtag = some o → o.purpose = .system id tag rw →
      ∃ out u, exec (.memoryResponse mtag r) s = .next u ∧
        u = { s with
          port := { s.port with
            outstanding := s.port.outstanding.filter fun x => x.mtag != mtag
            answers := s.port.answers ++ [{ id, tag, resp := out }]
            freeCount := u.port.freeCount } } ∧
        ((rw = none ∨ r = .fault) → out = r ∧ u.port.freeCount = s.port.freeCount) ∧
        ∀ w data, rw = some w → r = .okay data →
          ∃ d, out = .okay d ∧ d.length = data.length ∧
            (2 ≤ data.length → word16At d 0 = w.tag) ∧
            (4 ≤ data.length → word16At d 2 = w.seq) ∧
            (7 ≤ data.length →
              byteAt d 6 =
                ((byteAt data 6 &&& 0xF8#8) ||| (if w.disc then 2#8 else 0#8) |||
                  (if w.backup then 4#8 else 0#8))) ∧
            (∀ i, (i = 4 ∨ i = 5 ∨ (7 ≤ i ∧ i < 30)) → d[i]? = data[i]?) ∧
            (32 ≤ data.length →
              word16At d 30 = xor16 (headerBody d) ∧ d.drop 32 = data.drop 32)

/-! ### The watched words (R20, R21, R27, R40, R41) -/

/-- Table 2-2. START is acted on in PASSIVE alone, from any class: the value is recorded, the rejected flag cleared,
the part LOADING and the settings load placed. The order tail and the report consumer are acted on for class
CONTROL in ACTIVE and HALTING: a tail below the entry count becomes the internal tail; a consumer on the forward
path to the head becomes the consumer, and a STRAY notice it passes is no longer outstanding; another value is
ignored with a BAD_INDEX notice. (That the three rows are the hand-off itself, START with class OTHER, is the model's
choice, log 9.) -/
def Obligations.WatchedWordsAreActedOn : Prop :=
  (∀ (value : Word32) (cls : InitiatorClass) (s : State),
     (s.ctl.act = .passive →
       s.handOff .start cls value =
         State.place { purpose := .settingsLoad, addr := s.path.pageBase, access := .read 256 }
           { s with ctl := { s.ctl with act := .loading, startValue := value, rejected := false } }) ∧
     (s.ctl.act ≠ .passive → s.handOff .start cls value = s) ∧
     (s.resetLine = false → exec (.startWrite value) s = .next (s.handOff .start .other value))) ∧
  (∀ (cls : InitiatorClass) (value : Word32) (s : State),
     (cls = .control → (s.ctl.act = .active ∨ s.ctl.act = .halting) →
       (value.toNat < s.ctl.settings.orderCount →
         exec (.orderTailWrite cls value) s =
           .next { s with ctl := { s.ctl with tail := value.toNat } }) ∧
       (s.ctl.settings.orderCount ≤ value.toNat →
         exec (.orderTailWrite cls value) s =
           .next (State.offer
             (.badIndex
               { word := .orderTail, value, count := s.ctl.settings.orderCount, head := s.ctl.head,
                 other := s.ctl.tail }) s))) ∧
     ((cls ≠ .control ∨ (s.ctl.act ≠ .active ∧ s.ctl.act ≠ .halting)) →
       exec (.orderTailWrite cls value) s = .next s) ∧
     s.handOff .orderTail cls value =
       (match exec (.orderTailWrite cls value) s with
         | .next t => t
         | _ => s)) ∧
  ∀ (cls : InitiatorClass) (value : Word32) (s : State),
    let count : Int := s.ctl.settings.reportCount
    let c : Int := s.poster.consumer
    let h : Int := s.poster.head
    let v : Int := value.toNat
    let onPath := v < count ∧ (v - c) % count ≤ (h - c) % count
    (cls = .control → (s.ctl.act = .active ∨ s.ctl.act = .halting) → c < count → h < count →
      (onPath → ∃ stray, exec (.reportConsumerWrite cls value) s =
          .next { s with
            poster := { s.poster with consumer := value.toNat }, path := { s.path with stray } } ∧
        (∀ i : Nat, s.path.stray.outstanding = true → s.path.stray.index = some i →
          ((i : Int) - c) % count < (v - c) % count →
          stray = { s.path.stray with outstanding := false, index := none }) ∧
        (∀ i : Nat, s.path.stray.index = some i → (v - c) % count ≤ ((i : Int) - c) % count →
          stray = s.path.stray) ∧
        ((s.path.stray.outstanding = false ∨ s.path.stray.index = none) → stray = s.path.stray)) ∧
      (¬onPath → exec (.reportConsumerWrite cls value) s =
        .next (State.offer
          (.badIndex
            { word := .reportConsumer, value, count := s.ctl.settings.reportCount,
              head := s.poster.head, other := s.poster.consumer }) s))) ∧
    ((cls ≠ .control ∨ (s.ctl.act ≠ .active ∧ s.ctl.act ≠ .halting)) →
      exec (.reportConsumerWrite cls value) s = .next s) ∧
    s.handOff .reportConsumer cls value =
      (match exec (.reportConsumerWrite cls value) s with
        | .next t => t
        | _ => s)

/-! ### Activation (R22 to R26, R44, R45) -/

/-- Validation: the check against both values, then the four groups of Table 2-3 in order, each group as its rows
say; the overlap of all five areas. (The alignment of the ingress base is read as the least power of two not below
48 x D x Z, log 23.) A settings load that memory answers
FAULT, or whose block fails, rejects the activation: PASSIVE, the rejected flag, ATTN, and one status write
REJECTED with the reason and the check; every table keeps its value. -/
def Obligations.SettingsAreValidatedOrRejected : Prop :=
  (∀ (b : List Byte) (start : Word32) (pageBase : Nat),
     let v := validateSettings b start pageBase
     let f := settingsFields b
     let sum := xor32 ((List.range 62).map fun n => word32At b (4 * n))
     let badCheck := sum ≠ word32At b 0xF8 ∨ sum ≠ start
     (badCheck → v = some .check) ∧
     (¬badCheck → f.geometryOk = false → v = some .geometry) ∧
     (¬badCheck → f.geometryOk = true → f.rangeOk = false → v = some .range) ∧
     (¬badCheck → f.geometryOk = true → f.rangeOk = true → f.alignOk = false → v = some .align) ∧
     (¬badCheck → f.geometryOk = true → f.rangeOk = true → f.alignOk = true →
       f.overlapOk pageBase = false → v = some .overlap) ∧
     (¬badCheck → f.geometryOk = true → f.rangeOk = true → f.alignOk = true →
       f.overlapOk pageBase = true → v = none) ∧
     (f.geometryOk = true ↔
       (f.d = 16 ∨ f.d = 32 ∨ f.d = 64) ∧ (f.z = 2048 ∨ f.z = 4096 ∨ f.z = 8192) ∧
       (∃ n, 4 ≤ n ∧ n ≤ 12 ∧ f.orderCount = 2 ^ n) ∧ ∃ n, 4 ≤ n ∧ n ≤ 12 ∧ f.reportCount = 2 ^ n) ∧
     (f.geometryOk = true →
       (f.rangeOk = true ↔
         (∀ i : Fin 16, f.classes[i] ≤ 3) ∧ f.attn ≤ 1 ∧ f.preroll ≤ 600000 ∧ f.lineWait ≤ 30000 ∧
         f.lmin ≤ f.z - 32 ∧ f.ingressBase < 2 ^ 40 ∧ f.deliveryBase < 2 ^ 40 ∧ f.orderBase < 2 ^ 40 ∧
         f.reportBase < 2 ^ 40 ∧ f.initialTime < 2 ^ 40) ∧
       (f.alignOk = true ↔
         (∃ n, f.ingressBase % 2 ^ n = 0 ∧ 48 * f.d * f.z ≤ 2 ^ n ∧ 2 ^ n < 2 * (48 * f.d * f.z)) ∧
         f.deliveryBase % (32 * f.d * f.z) = 0 ∧ f.orderBase % (f.orderCount * 128) = 0 ∧
         f.reportBase % (f.reportCount * 128) = 0)) ∧
     (let areas :=
        [(f.ingressBase, 48 * f.d * f.z), (f.deliveryBase, 32 * f.d * f.z),
          (f.orderBase, f.orderCount * 128), (f.reportBase, f.reportCount * 128), (pageBase, 4096)]
      f.overlapOk pageBase = true ↔
        (∀ x y : Nat × Nat, ∀ i j : Nat, i < j → areas[i]? = some x → areas[j]? = some y →
          x.1 + x.2 ≤ y.1 ∨ y.1 + y.2 ≤ x.1) ∧ ∀ x ∈ areas, x.1 + x.2 ≤ 2 ^ 40)) ∧
  ∀ (s : State) (mtag : Nat) (r : Resp) (reason : RejectReason) (check : Word32),
    s.port.ownPurpose mtag = some .settingsLoad → s.ctl.act = .loading →
    ((r = .fault ∧ reason = .memory ∧ check = 0) ∨
      ∃ data, r = .okay data ∧ check = settingsCheck data ∧
        validateSettings data s.ctl.startValue s.path.pageBase = some reason) →
    ∃ u, exec (.settingsLoadResponse mtag r) s = .next u ∧
      u = State.place
        { purpose := .status false, addr := s.path.pageBase + 0x108,
          access := .write
            (([2#8, BitVec.ofNat 8 reason.code, 0, 0] ++ leBytes 4 check.toNat).map fun b => (b, true)) }
        { s with
          port := s.port.drop mtag, ctl := { s.ctl with act := .passive, rejected := true } } ∧
      u.attn = true

/-- A block that passes is taken up as one event: the regions, the class map, the settings, every record of the
tables (each booking entry keeps its generation), the poster and the time base, and three writes placed in
order. -/
def Obligations.PassedValidationActivates : Prop :=
  ∀ (s : State) (mtag : Nat) (data : List Byte),
    s.port.ownPurpose mtag = some .settingsLoad → s.ctl.act = .loading →
    validateSettings data s.ctl.startValue s.path.pageBase = none →
    let f := settingsFields data
    let clamped := f.divisor < 8 ∨ f.rateInterval = 0 ∨ 1000 < f.rateInterval
    ∃ u flag, exec (.settingsLoadResponse mtag (.okay data)) s = .next u ∧
      (flag = 1#8 ↔ clamped) ∧ (flag = 0#8 ↔ ¬clamped) ∧
      u.port =
        (((s.port.drop mtag).place
          { purpose := .orderHead 0, addr := s.path.pageBase + 0x208,
            access := .write (List.replicate 4 (0, true)) }).place
          { purpose := .reportHead 0 false, addr := s.path.pageBase + 0x308,
            access := .write (List.replicate 4 (0, true)) }).place
          { purpose := .status false, addr := s.path.pageBase + 0x108,
            access := .write
              (([1#8, 0, flag, 0] ++ leBytes 4 (settingsCheck data).toNat).map fun b => (b, true)) } ∧
      u.path =
        { cpsel := s.path.cpsel
          ingress := some { base := f.ingressBase, size := 48 * f.d * f.z }
          delivery := some { base := f.deliveryBase, size := 32 * f.d * f.z }
          classMap := u.path.classMap
          stray :=
            { counts := ⟨0, 0, 0, 0, 0, 0⟩, lastOffender := none, outstanding := false,
              index := none } } ∧
      (∀ i : Fin 16, classOf? f.classes[i] = some u.path.classMap[i]) ∧
      u.ctl =
        { act := .active, startValue := s.ctl.startValue, rejected := s.ctl.rejected
          check := settingsCheck data
          settings :=
            { d := f.d, z := f.z, lmin := f.lmin, preroll := f.preroll, lineWait := f.lineWait,
              attnEnable := decide (f.attn = 1), orderBase := f.orderBase, orderCount := f.orderCount,
              reportBase := f.reportBase, reportCount := f.reportCount }
          tail := 0, head := 0, fetching := false, haltAnswer := none, passiveWait := none } ∧
      u.poster =
        { consumer := 0, head := 0, published := 0, publishedTag := none, hold := [], reserved := false,
          lost := 0, posting := none, haltPlaced := false } ∧
      u.time.house = f.initialTime ∧ u.time.running = true ∧ u.time.prescaler = 0 ∧
      u.time.divisor = (if f.divisor < 8 then 8 else f.divisor) ∧
      u.time.rateInterval =
        (if f.rateInterval = 0 then 1 else if 1000 < f.rateInterval then 1000 else f.rateInterval) ∧
      u.time.rateExpiry = some (f.initialTime + u.time.rateInterval) ∧
      (∀ i : Fin 48,
        u.sources[i] =
          { enabled := false, tag := 0, silenceLimit := 1000, faultMode := .latched, strikeLimit := 3,
            recoveryCount := 8, allowance := 0, last := none, newest := none, intervalBytes := 0,
            overRate := 0, accepted := 0, gaps := 0, voids := ⟨0, 0, 0, 0, 0, 0, 0, 0⟩
            slots := List.replicate f.d none } ∧
        u.health[i] =
          { state := .disabled, strikes := 0, goodRun := 0, silence := none, cause := none } ∧
        u.useCounts[i] = 0) ∧
      (∀ c : Fin 16, u.tariffs[c] =
        { defined := false, base := 0, fan := 0, overrun := 0, credit := 0, grace := 0, threshold := 0,
          lateWindow := 0 }) ∧
      (∀ i : Fin 256, u.legs[i] = none ∧
        u.bookings[i] =
          { gen := s.bookings[i].gen, state := .free, account := 0, matchRef := 0, main := 0
            backup := none, mode := .none, revert := false, wtr := 0, windows := [], startS := 0
            endE := 0, holdOn := false, maxOver := 0
            tariff :=
              { defined := false, base := 0, fan := 0, overrun := 0, credit := 0, grace := 0,
                threshold := 0, lateWindow := 0 }
            meter :=
              { delivered := 0, deliveredBytes := 0, fills := 0, skipped := 0, legSwitches := 0,
                spans := 0, longest := 0, qualifying := 0, openSpan := none }
            actStart := none, actEnd := none, cancelTime := none, endReason := none
            lineCheck := .idle, prerollExp := none, startExp := none, endExp := none, capExp := none
            lineExp := none, held := none }) ∧
      (∀ w : Fin 32, u.calendar[w] = [] ∧
        u.windows[w] =
          { defined := false, tag := 0, guard := 2, holder := none, takePending := false, shift := 0,
            last := none, disc := false, dseq := 0, fillRun := 0
            counters := ⟨0, 0, 0, 0, 0, 0, 0, 0⟩, bindings := List.replicate f.d .none }) ∧
      u.settlements = [] ∧ u.pending = s.pending ∧ u.resetLine = s.resetLine

/-! ### Orders (R28 to R32) -/

/-- The next order is taken in ACTIVE, while IDLE, when the indices differ, no settlement waits and an entry is
free: the answer's entry is reserved and the entry is fetched. The answer to an order occupies the reserved entry
behind every report there, the head advances, an order-head write is placed and the processor is IDLE; a refused
order does this and no more.
A command whose condition does not hold is no event (the model's choice, log 3). -/
def Obligations.OrdersAreTakenAndAnswered : Prop :=
  (∀ s : State,
     (s.ctl.act = .active → s.ctl.fetching = false → s.ctl.head ≠ s.ctl.tail → s.settlements = [] →
       s.poster.used < 16 →
       exec .orderTake s =
         .next (State.place
           { purpose := .orderFetch s.ctl.head,
             addr := s.ctl.settings.orderBase + s.ctl.head * 128, access := .read 128 }
           { s with
             poster := { s.poster with reserved := true }, ctl := { s.ctl with fetching := true } })) ∧
     ((s.ctl.act ≠ .active ∨ s.ctl.fetching = true ∨ s.ctl.head = s.ctl.tail ∨ s.settlements ≠ [] ∨
         16 ≤ s.poster.used) →
       exec .orderTake s = .next s)) ∧
  (∀ (body : ReportBody) (s : State),
    let head := (s.ctl.head + 1) % s.ctl.settings.orderCount
    s.answerOrder body =
      State.place
        { purpose := .orderHead head, addr := s.path.pageBase + 0x208,
          access := .write ((leBytes 4 head).map fun b => (b, true)) }
        { s with
          ctl := { s.ctl with head, fetching := false }
          poster := { s.poster with
            hold := s.poster.hold ++ [{ created := s.time.house, body }], reserved := false } }) ∧
  ∀ (s : State) (mtag index : Nat) (entry : List Byte),
    (∀ r, s.refusedWith mtag index entry r =
      State.answerOrder
        (.completion
          { kind := byteAt entry 0, tag := word32At entry 4, index, outcome := .refused r })
        { s with port := s.port.drop mtag }) ∧
    ∀ clamped r, s.doneWith index entry clamped r =
      s.answerOrder
        (.completion
          { kind := byteAt entry 0, tag := word32At entry 4, index, outcome := .done clamped r })

/-- A fetch that memory answers FAULT, an unknown kind, and for every kind a nonzero byte outside its fields:
REFUSED, with no other change. A row whose kind is not the entry's is no event (the model's choice, log 10). -/
def Obligations.FaultedAndMalformedOrdersAreRefused : Prop :=
  ∀ (s : State) (mtag index : Nat) (entry : List Byte),
    (s.port.ownPurpose mtag = some (.orderFetch index) → s.ctl.fetching = true →
      s.poster.reserved = true →
      exec (.orderFetchFault mtag) s =
        .next (State.answerOrder
          (.completion { kind := 0, tag := 0, index, outcome := .refused .memory })
          { s with port := s.port.drop mtag })) ∧
    (∀ code, (code = 0 ∨ 13 ≤ code) → s.orderArrives mtag index code entry →
      exec (.unknownOrderKind mtag entry) s = .next (s.refusedWith mtag index entry .malformed)) ∧
    ∀ code i, 1 ≤ code → code ≤ 12 → s.orderArrives mtag index code entry →
      (i < 128 → fieldByte code entry i = false → byteAt entry i ≠ 0 →
        exec (orderRow mtag entry code) s = .next (s.refusedWith mtag index entry .malformed)) ∧
      ∀ other, other ≠ code → exec (orderRow mtag entry other) s = .next s

/-! ### Sources and health (R77 to R91) -/

/-- DEFINE_SOURCE: RANGE, then IN_USE, else the settings are recorded; a change of enable clears the baseline,
the slot table and the interval figures and moves the health record between DISABLED and ABSENT; a change of
fault mode while FAILED sets the good run to 0 and arms or cancels the silence expiry. A change of enable is a
change of health, with the cause ENABLE or DISABLE and all its steps (R88, R91). The ranges come first: the entry
reads as an order exactly when every one holds, and the reading is its fields. -/
def Obligations.DefineSourceRecordsTheSettings : Prop :=
  (∀ entry : List Byte,
    let src := field entry 0x08 1
    let enable := field entry 0x09 1
    let mode := field entry 0x10 1
    ((∃ o, sourceOrder? entry = some o) ↔
      src ≤ 47 ∧ enable ≤ 1 ∧ field entry 0x0A 2 ≠ 0 ∧ mode ≤ 1 ∧ 1 ≤ field entry 0x11 1 ∧
        field entry 0x11 1 ≤ 15 ∧ 1 ≤ field entry 0x12 1 ∧ field entry 0x12 1 ≤ 255) ∧
    ∀ o, sourceOrder? entry = some o →
      o.src.val = src ∧ (o.enable = true ↔ enable = 1) ∧ o.tag = word16At entry 0x0A ∧
        o.silence = field entry 0x0C 4 ∧ (o.faultMode = .latched ↔ mode = 0) ∧
        (o.faultMode = .recovering ↔ mode = 1) ∧ o.strikeLimit = field entry 0x11 1 ∧
        o.recoveryCount = field entry 0x12 1 ∧ o.allowance = field entry 0x14 4) ∧
  ∀ (s : State) (mtag index : Nat) (entry : List Byte),
    s.orderArrives mtag index 1 entry → shapeOk 1 entry = true →
    (sourceOrder? entry = none →
      exec (.defineSource mtag entry) s = .next (s.refusedWith mtag index entry .range)) ∧
    ∀ o, sourceOrder? entry = some o →
      (0 < s.useCounts[o.src] → (o.enable = false ∨ o.tag ≠ s.sources[o.src].tag) →
        exec (.defineSource mtag entry) s = .next (s.refusedWith mtag index entry .inUse)) ∧
      ((s.useCounts[o.src] = 0 ∨ (o.enable = true ∧ o.tag = s.sources[o.src].tag)) →
        let r := s.sources[o.src]
        let h := s.health[o.src]
        let limit := if o.silence < 10 then 10 else if 60000 < o.silence then 60000 else o.silence
        let flip := r.enabled ≠ o.enable
        ∃ u, exec (.defineSource mtag entry) s =
            .next (u.doneWith index entry (decide (o.silence < 10 ∨ 60000 < o.silence))
              (.defineSource o.src o.enable o.tag limit o.faultMode o.strikeLimit o.recoveryCount
                o.allowance
                { enabled := r.enabled, newest := r.newest, last := r.last,
                  intervalBytes := r.intervalBytes, accepted := r.accepted, gaps := r.gaps,
                  voids := r.voids })) ∧
          (¬flip → u.sources[o.src] =
            { r with
              tag := o.tag, silenceLimit := limit, faultMode := o.faultMode,
              strikeLimit := o.strikeLimit, recoveryCount := o.recoveryCount,
              allowance := o.allowance }) ∧
          (flip → u.sources[o.src] =
            { r with
              enabled := o.enable, tag := o.tag, silenceLimit := limit, faultMode := o.faultMode,
              strikeLimit := o.strikeLimit, recoveryCount := o.recoveryCount,
              allowance := o.allowance, last := none, newest := none, intervalBytes := 0,
              overRate := 0, slots := r.slots.map fun _ => none }) ∧
          (flip → ∃ (h1 : Health) (cause : HealthCause),
            (o.enable = true → cause = .enable ∧ h1 =
              { state := .absent, strikes := 0, goodRun := 0, silence := some (s.time.house + limit),
                cause := none }) ∧
            (o.enable = false → cause = .disable ∧ h1 =
              { state := .disabled, strikes := 0, goodRun := 0, silence := none, cause := none }) ∧
            u = State.setHealth o.src h1 cause
              { s with port := s.port.drop mtag, sources := s.sources.set o.src u.sources[o.src] }) ∧
          (flip → o.enable = true → u.health[o.src] =
            { state := .absent, strikes := 0, goodRun := 0,
              silence := some (s.time.house + limit), cause := none }) ∧
          (flip → o.enable = false → u.health[o.src] =
            { state := .disabled, strikes := 0, goodRun := 0, silence := none, cause := none }) ∧
          (¬flip → o.enable = true → h.state = .failed → r.faultMode ≠ o.faultMode →
            u.health[o.src] =
              { h with
                goodRun := 0
                silence := if o.faultMode = .recovering then some (s.time.house + limit)
                  else none }) ∧
          (¬flip → (o.enable = false ∨ h.state ≠ .failed ∨ r.faultMode = o.faultMode) →
            u.health = s.health) ∧
          (¬flip → u.poster = s.poster ∧ u.legs = s.legs ∧ u.bookings = s.bookings) ∧
          (∀ i, i ≠ o.src → u.sources[i] = s.sources[i] ∧ u.health[i] = s.health[i]) ∧
          State.tablesOnly { s with port := s.port.drop mtag } u ∧ s.bookingsQuiet u ∧
          u.calendar = s.calendar ∧ u.useCounts = s.useCounts ∧ u.windows = s.windows ∧
          u.settlements = s.settlements)

/-- CLEAR: RANGE, WRONG_STATE unless FAILED in LATCHED mode, else the baseline is absent, the slot table invalid
and the source ABSENT with its silence expiry armed, a change of health of cause CLEAR with all its steps (R88,
R91). -/
def Obligations.ClearReleasesAHeldSource : Prop :=
  ∀ (s : State) (mtag index : Nat) (entry : List Byte),
    s.orderArrives mtag index 2 entry → shapeOk 2 entry = true →
    (48 ≤ field entry 8 1 →
      exec (.clear mtag entry) s = .next (s.refusedWith mtag index entry .range)) ∧
    ∀ i : Fin 48, field entry 8 1 = i.val →
      (¬(s.health[i].state = .failed ∧ s.sources[i].faultMode = .latched) →
        exec (.clear mtag entry) s = .next (s.refusedWith mtag index entry .wrongState)) ∧
      (s.health[i].state = .failed → s.sources[i].faultMode = .latched →
        ∃ u, exec (.clear mtag entry) s =
            .next (u.doneWith index entry false (.clear i s.health[i].cause)) ∧
          u = State.setHealth i
            { state := .absent, strikes := 0, goodRun := 0,
              silence := some (s.time.house + s.sources[i].silenceLimit), cause := none } .clear
            { s with port := s.port.drop mtag, sources := s.sources.set i u.sources[i] } ∧
          u.sources[i] =
            { s.sources[i] with
              last := none, newest := none, slots := s.sources[i].slots.map fun _ => none } ∧
          u.health[i] =
            { state := .absent, strikes := 0, goodRun := 0,
              silence := some (s.time.house + s.sources[i].silenceLimit), cause := none } ∧
          (∀ j, j ≠ i → u.sources[j] = s.sources[j] ∧ u.health[j] = s.health[j]) ∧
          State.tablesOnly { s with port := s.port.drop mtag } u ∧ s.bookingsQuiet u ∧
          u.calendar = s.calendar ∧ u.useCounts = s.useCounts ∧ u.windows = s.windows ∧
          u.settlements = s.settlements)

/-- The health record after an arrival event, by its state and the event's class, and at its silence expiry
(Table 5-2, R87).
A command whose condition does not hold is no event (the model's choice, log 3). -/
def Obligations.HealthTransitions : Prop :=
  (∀ (h : Health) (r : Source) (now : Nat),
     let armed := some (now + r.silenceLimit)
     let struck : Health :=
       { h with
         strikes := 1, goodRun := 0
         state := if r.strikeLimit ≤ 1 then .failed else .suspect
         cause := if r.strikeLimit ≤ 1 then some .impaired else h.cause
         silence := if r.strikeLimit ≤ 1 ∧ r.faultMode = .latched then none else h.silence }
     let strikes := min 15 (h.strikes + 1)
     let run := min 255 (h.goodRun + 1)
     (h.state = .absent →
       h.afterArrival r now .accepted = { h with state := .good, silence := armed } ∧
       h.afterArrival r now .voidImpairing = struck) ∧
     (h.state = .good →
       h.afterArrival r now .accepted = { h with silence := armed } ∧
       h.afterArrival r now .voidImpairing = struck ∧
       h.afterArrival r now .acceptedGap =
         { struck with
           silence := if r.strikeLimit ≤ 1 ∧ r.faultMode = .latched then none else armed }) ∧
     ((h.state = .suspect ∨ (h.state = .failed ∧ r.faultMode = .recovering)) →
       h.afterArrival r now .accepted =
         (if r.recoveryCount ≤ run then
           { state := .good, strikes := 0, goodRun := 0, silence := armed, cause := none }
         else { h with goodRun := run, silence := armed })) ∧
     (h.state = .suspect →
       h.afterArrival r now .voidImpairing =
         (if r.strikeLimit ≤ strikes then
           { state := .failed, strikes, goodRun := 0, cause := some .impaired
             silence := if r.faultMode = .latched then none else h.silence }
         else { h with strikes, goodRun := 0 }) ∧
       h.afterArrival r now .acceptedGap =
         (if r.strikeLimit ≤ strikes then
           { state := .failed, strikes, goodRun := 0, cause := some .impaired
             silence := if r.faultMode = .latched then none else armed }
         else { h with strikes, goodRun := 0, silence := armed })) ∧
     (h.state = .failed → r.faultMode = .recovering →
       h.afterArrival r now .voidImpairing = { h with goodRun := 0 } ∧
       h.afterArrival r now .acceptedGap = { h with goodRun := 0, silence := armed }) ∧
     h.afterArrival r now .voidNeutral = h) ∧
  ∀ (s : State) (x : Fin 48),
    let h := s.health[x]
    let r := s.sources[x]
    let armed := some (s.time.house + r.silenceLimit)
    ((∀ e, h.silence = some e → s.time.house < e) → exec (.silenceExpiry x) s = .next s) ∧
    ∀ e, h.silence = some e → e ≤ s.time.house →
      ((h.state = .absent ∨ (h.state = .failed ∧ r.faultMode = .recovering)) →
        exec (.silenceExpiry x) s =
          .next { s with health := s.health.set x { h with silence := armed } }) ∧
      ((h.state = .good ∨ h.state = .suspect) →
        exec (.silenceExpiry x) s =
          .next (s.setHealth x
            { state := .failed, strikes := h.strikes, cause := some .silent
              goodRun := if r.faultMode = .recovering then 0 else h.goodRun
              silence := if r.faultMode = .recovering then armed else none } .silence))

/-- A change of a health record: recorded; when the state changes, the HEALTH notice, the line checks, the leg
rules and the judgements of the bookings that name the source follow in that order (line checks in ascending
order: the model's choice, log 15); when it does not, nothing else happens. -/
def Obligations.HealthChangeStepsRunInOrder : Prop :=
  ∀ (s : State) (x : Fin 48) (h : Health) (cause : HealthCause),
    let s1 := { s with health := s.health.set x h }
    let named := (List.finRange 256).filter fun i =>
      s.bookings[i].main == x || s.bookings[i].backup == some x
    (s.health[x].state = h.state → s.setHealth x h cause = s1) ∧
    (s.health[x].state ≠ h.state →
      s.setHealth x h cause =
        (let s2 := State.offer
          (.health
            { src := x, before := s.health[x].state, after := h.state, cause,
              faultMode := s.sources[x].faultMode, strikes := h.strikes, goodRun := h.goodRun,
              failure := h.cause, snapshot := s.sources[x].snapshot }) s1
        let s3 := named.foldl
          (fun v i =>
            if v.bookings[i].lineCheck = .waiting ∧
                ∀ y ∈ v.bookings[i].sources, v.health[y].state ≠ .absent then
              v.endLineCheck i .health
            else v) s2
        let s4 := named.foldl (fun v i => v.legRules i .loss .restore) s3
        named.foldl (fun v i => v.judge i) s4))

/-! ### Legs, deliverability and spans (R92 to R101, R156, R157) -/

/-- The automatic rule and the revert rule on a leg record, and what a change of the active leg does. -/
def Obligations.LegRulesMoveTheActiveLeg : Prop :=
  ∀ (s : State) (i : Fin 256) (l : Leg) (cause : LegCause), s.legs[i] = some l →
    let b := s.bookings[i]
    let m := s.available b.main
    let k := s.backupAvailable b.backup
    (l.forced = .auto → l.active = some .main → m = false → k = true →
      s.autoRule i cause = s.switchLeg i l .main .backup cause) ∧
    (l.forced = .auto → l.active = some .backup → k = false → m = true →
      s.autoRule i cause = s.switchLeg i { l with wtrExp := none } .backup .main cause) ∧
    ((l.forced ≠ .auto ∨ l.active = none ∨ (l.active = some .main ∧ (m = true ∨ k = false)) ∨
        (l.active = some .backup ∧ (k = true ∨ m = false))) → s.autoRule i cause = s) ∧
    (l.forced = .auto → l.active = some .backup → b.revert = true →
      (s.health[b.main].state = .good → l.wtrExp = none → 0 < b.wtr →
        s.revertRule i cause =
          { s with legs := s.legs.set i (some { l with wtrExp := some (s.time.house + b.wtr) }) }) ∧
      (s.health[b.main].state = .good → l.wtrExp = none → b.wtr = 0 →
        s.revertRule i cause = s.switchLeg i l .backup .main cause) ∧
      (s.health[b.main].state = .good → l.wtrExp ≠ none → s.revertRule i cause = s) ∧
      (s.health[b.main].state ≠ .good →
        s.revertRule i cause = { s with legs := s.legs.set i (some { l with wtrExp := none }) })) ∧
    ((l.forced ≠ .auto ∨ l.active ≠ some .backup ∨ b.revert = false) → s.revertRule i cause = s) ∧
    ∀ before after,
      s.switchLeg i l before after cause =
        { State.offer
            (.leg
              { handle := { index := i, gen := b.gen }, before, after, forced := l.forced, cause,
                mainHealth := s.health[b.main].state,
                backupHealth := b.backup.map fun x => s.health[x].state })
            { s with legs := s.legs.set i (some { l with active := some after }) } with
          bookings := s.bookings.set i
            { b with
              meter := { b.meter with legSwitches := min 4294967295 (b.meter.legSwitches + 1) } } }

/-- FORCE_LEG: RANGE, NO_BOOKING, WRONG_STATE, else the leg is pinned or the rules are applied, and the
deliverability is judged anew. The wait-to-restore expiry: the active leg becomes MAIN with a LEG notice of cause
RESTORE; with no record, or not due, nothing.
A command whose condition does not hold is no event (the model's choice, log 3). -/
def Obligations.ForceLegAndWaitToRestore : Prop :=
  (∀ (s : State) (mtag index : Nat) (entry : List Byte),
     s.orderArrives mtag index 3 entry → shapeOk 3 entry = true →
     let h := orderHandle entry
     let b := s.bookings[h.index]
     (3 ≤ field entry 0x0A 1 →
       exec (.forceLeg mtag entry) s = .next (s.refusedWith mtag index entry .range)) ∧
     ∀ forced, forcedLegOf? (field entry 0x0A 1) = some forced →
       (b.gen ≠ h.gen →
         exec (.forceLeg mtag entry) s = .next (s.refusedWith mtag index entry .noBooking)) ∧
       (b.gen = h.gen →
         (b.mode ≠ .switch ∨
           (b.state ≠ .preroll ∧ b.state ≠ .onAir ∧ b.state ≠ .overrun)) →
         exec (.forceLeg mtag entry) s = .next (s.refusedWith mtag index entry .wrongState)) ∧
       (∀ l, b.gen = h.gen → b.mode = .switch →
         (b.state = .preroll ∨ b.state = .onAir ∨ b.state = .overrun) → s.legs[h.index] = some l →
         let s0 := { s with port := s.port.drop mtag }
         let put := fun x : Leg => { s0 with legs := s.legs.set h.index (some x) }
         ∃ u v, exec (.forceLeg mtag entry) s =
             .next (u.doneWith index entry false (.forceLeg h forced (u.activeOf h.index))) ∧
           u = v.judge h.index ∧
           (forced = .main →
             v = if l.active = some .backup then
                 s0.switchLeg h.index { l with forced := .main, wtrExp := none } .backup .main .forced
               else put { l with forced := .main, wtrExp := none }) ∧
           (forced = .backup →
             v = if l.active = some .main then
                 s0.switchLeg h.index { l with forced := .backup, wtrExp := none } .main .backup
                   .forced
               else put { l with forced := .backup, wtrExp := none }) ∧
           (forced = .auto →
             v = (State.autoRule h.index .forced (put { l with forced := .auto })).revertRule h.index
               .forced))) ∧
  ∀ (s : State) (i : Fin 256),
    (∀ l e a, s.legs[i] = some l → l.wtrExp = some e → e ≤ s.time.house → l.active = some a →
      exec (.waitToRestoreExpiry i) s =
        .next (s.switchLeg i { l with wtrExp := none } a .main .restore)) ∧
    ((∀ l e, s.legs[i] = some l → l.wtrExp = some e → s.time.house < e) →
      exec (.waitToRestoreExpiry i) s = .next s)

/-- Deliverability by protection mode and forced leg (R100), and its judgement: a span opens or closes where the
booking on air and its open span differ (R101, R156, R157). -/
def Obligations.SpansFollowDeliverability : Prop :=
  ∀ (s : State) (i : Fin 256),
    let b := s.bookings[i]
    let m := s.available b.main
    let k := s.backupAvailable b.backup
    (b.mode = .none → s.deliverable i = m) ∧
    (b.mode = .merge → s.deliverable i = (m || k)) ∧
    (b.mode = .switch → ∀ l, s.legs[i] = some l →
      s.deliverable i =
        (match l.forced with
          | .auto => m || k
          | .main => m
          | .backup => k)) ∧
    (∀ x : Fin 48, s.available x = true ↔
      s.health[x].state = .good ∨ s.health[x].state = .suspect) ∧
    ((b.state ≠ .onAir ∧ b.state ≠ .overrun) → s.judge i = s) ∧
    ((b.state = .onAir ∨ b.state = .overrun) →
      (s.deliverable i = true → b.meter.openSpan = none → s.judge i = s) ∧
      (s.deliverable i = false → b.meter.openSpan ≠ none → s.judge i = s) ∧
      (s.deliverable i = false → b.meter.openSpan = none →
        s.judge i =
          { s with
            bookings := s.bookings.set i
              { b with meter := { b.meter with openSpan := some s.time.house } } }) ∧
      ∀ o, s.deliverable i = true → b.meter.openSpan = some o →
        s.judge i =
          { s with
            bookings := s.bookings.set i
              { b with
                meter := { b.meter with
                  spans := min 4294967295 (b.meter.spans + 1)
                  longest := max b.meter.longest (s.time.house - o)
                  qualifying :=
                    if b.tariff.threshold ≤ s.time.house - o then
                      b.meter.qualifying + (s.time.house - o)
                    else b.meter.qualifying
                  openSpan := none } } })

/-! ### Tariffs and bookings (R102 to R126) -/

/-- TARIFF: RANGE, or the class takes the seven values and becomes defined. -/
def Obligations.TariffDefinesTheClass : Prop :=
  ∀ (s : State) (mtag index : Nat) (entry : List Byte),
    s.orderArrives mtag index 4 entry → shapeOk 4 entry = true →
    let ok := field entry 0x08 1 ≤ 15 ∧ field entry 0x0C 4 ≤ 1000000 ∧ field entry 0x10 4 ≤ 1000000 ∧
      field entry 0x14 4 ≤ 1000000 ∧ field entry 0x18 4 ≤ 1000000 ∧ field entry 0x1C 4 ≤ 600000 ∧
      field entry 0x20 4 ≤ 600000 ∧ field entry 0x24 4 ≤ 86400000
    (¬ok → exec (.tariff mtag entry) s = .next (s.refusedWith mtag index entry .range)) ∧
    (ok → ∃ c : Fin 16, c.val = field entry 0x08 1 ∧
      exec (.tariff mtag entry) s =
        .next (State.doneWith
          { s with
            port := s.port.drop mtag
            tariffs := s.tariffs.set c
              { defined := true, base := field entry 0x0C 4, fan := field entry 0x10 4,
                overrun := field entry 0x14 4, credit := field entry 0x18 4,
                grace := field entry 0x1C 4, threshold := field entry 0x20 4,
                lateWindow := field entry 0x24 4 } }
          index entry false (.tariff c s.tariffs[c].defined)))

/-- The range rules of a BOOK: the entry reads as an order exactly when every one holds, and the reading is its
fields. -/
def Obligations.BookRanges : Prop :=
  ∀ entry : List Byte,
    let n := field entry 0x0E 1
    let win := fun i => field entry (0x10 + i) 1
    let mode := field entry 0x0B 1
    let main := field entry 0x09 1
    let backup := field entry 0x0A 1
    let startS := field entry 0x28 8
    let endE := field entry 0x30 8
    ((∃ o, bookOrder? entry = some o) ↔
      field entry 0x08 1 ≤ 15 ∧ main ≤ 47 ∧ (backup ≤ 47 ∨ backup = 255) ∧ mode ≤ 2 ∧
        field entry 0x0C 1 ≤ 1 ∧ field entry 0x0D 1 ≤ 1 ∧ 1 ≤ n ∧ n ≤ 4 ∧ (∀ i, i < n → win i ≤ 31) ∧
        (∀ i j, i < j → j < n → win i ≠ win j) ∧ startS < 2 ^ 40 ∧ endE < 2 ^ 40 ∧ startS < endE ∧
        endE - startS ≤ 86400000 ∧ field entry 0x18 4 ≤ 7200000 ∧ field entry 0x14 4 ≤ 600000 ∧
        (mode = 0 → backup = 255) ∧ (mode ≠ 0 → backup ≠ 255 ∧ backup ≠ main) ∧
        (mode ≠ 1 → field entry 0x0C 1 = 0 ∧ field entry 0x14 4 = 0)) ∧
    ∀ o, bookOrder? entry = some o →
      o.cls.val = field entry 0x08 1 ∧ o.main.val = main ∧ (∀ x, o.backup = some x → x.val = backup) ∧
        (o.backup = none ↔ backup = 255) ∧ (o.mode = .none ↔ mode = 0) ∧ (o.mode = .switch ↔ mode = 1) ∧
        (o.mode = .merge ↔ mode = 2) ∧ (o.revert = true ↔ field entry 0x0C 1 = 1) ∧
        (o.holdOn = true ↔ field entry 0x0D 1 = 1) ∧
        o.windows.map (fun w => w.val) = (List.range n).map win ∧ o.startS = startS ∧ o.endE = endE ∧
        o.maxOver = field entry 0x18 4 ∧ o.wtr = field entry 0x14 4 ∧
        o.account = word32At entry 0x1C ∧ o.matchRef = word32At entry 0x20

/-- The refusals of a BOOK: RANGE, then the six checks in order. -/
def Obligations.BookChecksRunInOrder : Prop :=
  ∀ (s : State) (mtag index : Nat) (entry : List Byte),
    s.orderArrives mtag index 5 entry → shapeOk 5 entry = true →
    (bookOrder? entry = none →
      exec (.book mtag entry) s = .next (s.refusedWith mtag index entry .range)) ∧
    ∀ o, bookOrder? entry = some o →
      let tariffOk := s.tariffs[o.cls].defined = true
      let sourcesOk := s.sources[o.main].enabled = true ∧
        ∀ x, o.backup = some x → s.sources[x].enabled = true
      let windowsOk := ∀ w ∈ o.windows, s.windows[w].defined = true
      let timeOk := s.time.house < o.endE
      let roomOk := ∃ i : Fin 256, s.bookings[i].state = .free
      let conflict := ∃ w ∈ o.windows, ∃ x ∈ s.calendar[w],
        max o.startS s.time.house < x.endE ∧ x.startS < o.endE
      let refused := fun r => exec (.book mtag entry) s = .next (s.refusedWith mtag index entry r)
      (¬tariffOk → refused .noTariff) ∧ (tariffOk → ¬sourcesOk → refused .noSource) ∧
      (tariffOk → sourcesOk → ¬windowsOk → refused .noWindow) ∧
      (tariffOk → sourcesOk → windowsOk → ¬timeOk → refused .tooLate) ∧
      (tariffOk → sourcesOk → windowsOk → timeOk → ¬roomOk → refused .tableFull) ∧
      (tariffOk → sourcesOk → windowsOk → timeOk → roomOk → conflict → refused .conflict)

/-- The acceptance of a BOOK: the FREE entry of lowest index takes the next generation and the order's fields,
the calendar of each window takes the item, and the first state is decided: a start at once, PREROLL, or
PENDING with its pre-roll expiry. -/
def Obligations.BookTakesTheLowestFreeEntry : Prop :=
  ∀ (s : State) (mtag index : Nat) (entry : List Byte) (o : BookOrder) (i : Fin 256),
    s.orderArrives mtag index 5 entry → shapeOk 5 entry = true → bookOrder? entry = some o →
    s.tariffs[o.cls].defined = true → s.sources[o.main].enabled = true →
    (∀ x, o.backup = some x → s.sources[x].enabled = true) →
    (∀ w ∈ o.windows, s.windows[w].defined = true) → s.time.house < o.endE →
    s.bookings[i].state = .free → (∀ j, j < i → s.bookings[j].state ≠ .free) →
    (∀ w ∈ o.windows, ∀ x ∈ s.calendar[w],
      ¬(max o.startS s.time.house < x.endE ∧ x.startS < o.endE)) →
    let start := max o.startS s.time.house
    let preroll := s.ctl.settings.preroll
    let b : Booking :=
      { gen := s.bookings[i].gen + 1, state := .pending, account := o.account,
        matchRef := o.matchRef, main := o.main, backup := o.backup, mode := o.mode,
        revert := o.revert, wtr := o.wtr, windows := o.windows, startS := start, endE := o.endE,
        holdOn := o.holdOn, maxOver := o.maxOver, tariff := s.tariffs[o.cls],
        meter :=
          { delivered := 0, deliveredBytes := 0, fills := 0, skipped := 0, legSwitches := 0,
            spans := 0, longest := 0, qualifying := 0, openSpan := none }
        actStart := none, actEnd := none, cancelTime := none, endReason := none,
        lineCheck := .idle, prerollExp := none, startExp := none, endExp := none, capExp := none,
        lineExp := none, held := none }
    ∃ s1 u : State,
      s1 = { s with
        port := s.port.drop mtag, bookings := s.bookings.set i b, calendar := s1.calendar } ∧
      (∀ w : Fin 32, w ∉ o.windows → s1.calendar[w] = s.calendar[w]) ∧
      (∀ w ∈ o.windows, ∀ x, x ∈ s1.calendar[w] ↔
        x ∈ s.calendar[w] ∨ x = { booking := i, startS := start, endE := o.endE }) ∧
      (start = s.time.house → u = s1.startBooking i true) ∧
      (s.time.house < start → start ≤ s.time.house + preroll → u = s1.enterPreroll i) ∧
      (s.time.house + preroll < start →
        u = { s1 with
          bookings := s.bookings.set i { b with prerollExp := some (start - preroll) } }) ∧
      exec (.book mtag entry) s =
        .next (u.doneWith index entry (decide (o.startS < s.time.house))
          (.book { index := i, gen := s.bookings[i].gen + 1 } u.bookings[i].state start o.endE
            o.account o.matchRef))

/-- EXTEND: RANGE, NO_BOOKING, WRONG_STATE, then the granted end as the least of the three bounds; a grant that
does not pass E is refused CONFLICT or RANGE, else E and the calendar items move, and the expiries by state. -/
def Obligations.ExtendMovesThePlannedEnd : Prop :=
  ∀ (s : State) (mtag index : Nat) (entry : List Byte),
    s.orderArrives mtag index 6 entry → shapeOk 6 entry = true →
    let h := orderHandle entry
    let b := s.bookings[h.index]
    let x := field entry 0x0C 4
    let refused := fun r => exec (.extend mtag entry) s = .next (s.refusedWith mtag index entry r)
    let live := b.state = .pending ∨ b.state = .preroll ∨ b.state = .onAir ∨ b.state = .overrun
    let inRange := 1 ≤ x ∧ x ≤ 172800000
    let next := fun t => ∃ w ∈ b.windows, ∃ y ∈ s.calendar[w],
      y.booking ≠ h.index ∧ b.endE ≤ y.startS ∧ y.startS = t
    (¬inRange → refused .range) ∧
    (inRange → b.gen ≠ h.gen → refused .noBooking) ∧
    (inRange → b.gen = h.gen → ¬live → refused .wrongState) ∧
    (inRange → b.gen = h.gen → live →
      ∃ e, e ≤ b.endE + x ∧ e ≤ b.startS + 172800000 ∧ (∀ t, next t → e ≤ t) ∧
        (e = b.endE + x ∨ e = b.startS + 172800000 ∨ next e) ∧
        (e ≤ b.endE → (next b.endE → refused .conflict) ∧ (¬next b.endE → refused .range)) ∧
        (b.endE < e →
          ∃ (c : Booking) (u : State), exec (.extend mtag entry) s =
              .next (u.doneWith index entry (decide (e < b.endE + x))
                (.extend h c.state e (e - b.endE))) ∧
            u = { s with
              port := s.port.drop mtag, bookings := s.bookings.set h.index c
              calendar := s.calendar.map fun l => l.map fun y =>
                if y.booking = h.index then { y with endE := e } else y } ∧
            ((b.state = .pending ∨ b.state = .preroll) → c = { b with endE := e }) ∧
            (b.state = .onAir → c = { b with endE := e, endExp := some e }) ∧
            (b.state = .overrun → s.time.house < e →
              c = { b with endE := e, state := .onAir, capExp := none, endExp := some e }) ∧
            (b.state = .overrun → e ≤ s.time.house →
              c = { b with endE := e, capExp := some (e + b.maxOver) })))

/-- The close of a booking: the steps at the entry, the calendar, the windows, the use counts, the leg record and
the settlement list; settlements then enter the hold queue while it has room. (That a line check still WAITING is
DONE after the close is the model's reading, log 21.) -/
def Obligations.CloseSettlesTheBooking : Prop :=
  ∀ (s : State) (i : Fin 256) (reason : EndReason) (withdrawn : Bool),
    let b := s.bookings[i]
    let now := s.time.house
    let aired := b.state = .onAir ∨ b.state = .overrun
    ∃ (c : Booking) (v : State) (x : Settlement),
      s.closeBooking i reason withdrawn = v.drainSettlements ∧
      v = { s with
        bookings := s.bookings.set i c, calendar := v.calendar, windows := v.windows
        useCounts := v.useCounts, legs := s.legs.set i none, settlements := s.settlements ++ [i] } ∧
      (∀ w : Fin 32, v.calendar[w] = s.calendar[w].filter fun y => y.booking != i) ∧
      (aired → ∀ w ∈ b.windows, v.windows[w] =
        { s.windows[w] with
          holder := none, takePending := false, last := none, disc := false, fillRun := 0
          bindings := s.windows[w].bindings.map fun _ => .none }) ∧
      (∀ w : Fin 32, (¬aired ∨ w ∉ b.windows) → v.windows[w] = s.windows[w]) ∧
      ((aired ∨ b.state = .preroll) → b.backup ≠ some b.main → ∀ y : Fin 48,
        v.useCounts[y] =
          if y = b.main ∨ b.backup = some y then s.useCounts[y] - 1 else s.useCounts[y]) ∧
      (¬(aired ∨ b.state = .preroll) → v.useCounts = s.useCounts) ∧
      c = { b with
        state := .settling, endReason := some reason, meter := c.meter, held := some x
        actEnd := if aired then some now else b.actEnd
        lineCheck := if b.lineCheck = .waiting then .done else b.lineCheck
        prerollExp := none, startExp := none, endExp := none, capExp := none, lineExp := none } ∧
      (b.meter.openSpan = none → c.meter = b.meter) ∧
      (∀ o, b.meter.openSpan = some o → c.meter =
        { b.meter with
          spans := min 4294967295 (b.meter.spans + 1)
          longest := max b.meter.longest (now - o)
          qualifying := if b.tariff.threshold ≤ now - o then b.meter.qualifying + (now - o)
            else b.meter.qualifying
          openSpan := none }) ∧
      x =
        { created := now, handle := { index := i, gen := b.gen }, reason, withdrawn
          lateCancel := x.lateCancel, account := b.account, matchRef := b.matchRef, main := b.main,
          backup := b.backup, mode := b.mode, windows := b.windows, startS := b.startS,
          endE := b.endE, actStart := b.actStart, actEnd := c.actEnd, cancelTime := b.cancelTime,
          charges := x.charges, spans := c.meter.spans, longest := c.meter.longest,
          delivered := c.meter.delivered, deliveredBytes := c.meter.deliveredBytes,
          fills := c.meter.fills, skipped := c.meter.skipped, legSwitches := c.meter.legSwitches } ∧
      (∀ a e, b.actStart = some a → c.actEnd = some e →
        x.charges = chargesAired c c.meter e ∧ x.lateCancel = false) ∧
      (b.actStart = none →
        (x.lateCancel = true ↔ reason = .cancelled ∧
          ∃ t, b.cancelTime = some t ∧ b.startS - t < b.tariff.lateWindow) ∧
        x.charges = chargesNeverAired c x.lateCancel)

/-- The settlement arithmetic, stage by stage, for a booking that aired, and every result of one that never did,
charged or not. -/
def Obligations.SettlementStages : Prop :=
  ∀ (b : Booking) (m : Meter) (ae : Nat),
    let n := b.windows.length
    let t := b.tariff
    let x := chargesAired b m ae
    (x.bookedMs = b.endE - b.startS ∧
      x.overrunMs = (if b.endE < ae then ae - b.endE else 0) ∧
      x.chargeableMs = (if t.grace < x.overrunMs then x.overrunMs - t.grace else 0) ∧
      x.qualifyingMs = m.qualifying ∧
      x.baseMin = (x.bookedMs + 59999) / 60000 ∧ x.overMin = (x.chargeableMs + 59999) / 60000 ∧
      x.creditMin = x.qualifyingMs / 60000 ∧
      x.baseCharge = x.baseMin * (t.base + (n - 1) * t.fan) ∧
      x.overCharge = x.overMin * (t.overrun + (n - 1) * t.fan) ∧
      x.credit =
        (if x.creditMin * t.credit ≤ x.baseCharge then x.creditMin * t.credit else x.baseCharge) ∧
      (x.capped = true ↔ x.baseCharge < x.creditMin * t.credit) ∧
      x.credit ≤ x.baseCharge ∧ x.total = x.baseCharge + x.overCharge - x.credit) ∧
    chargesNeverAired b false =
      { bookedMs := b.endE - b.startS, overrunMs := 0, chargeableMs := 0, qualifyingMs := 0,
        baseMin := 0, overMin := 0, creditMin := 0, baseCharge := 0, overCharge := 0, credit := 0,
        total := 0, capped := false } ∧
    chargesNeverAired b true =
      (let charge := (b.endE - b.startS + 59999) / 60000 * (t.base + (n - 1) * t.fan)
       { bookedMs := b.endE - b.startS, overrunMs := 0, chargeableMs := 0, qualifyingMs := 0,
         baseMin := (b.endE - b.startS + 59999) / 60000, overMin := 0, creditMin := 0,
         baseCharge := charge, overCharge := 0, credit := 0, total := charge, capped := false })

/-- RELEASE, CANCEL and METER: NO_BOOKING, WRONG_STATE, else the close RELEASED, the close CANCELLED, or a reading
that changes no table. -/
def Obligations.ReleaseCancelAndMeter : Prop :=
  ∀ (s : State) (mtag index : Nat) (entry : List Byte),
    let h := orderHandle entry
    let b := s.bookings[h.index]
    let now := s.time.house
    let s0 := { s with port := s.port.drop mtag }
    let aired := b.state = .onAir ∨ b.state = .overrun
    let waits := b.state = .pending ∨ b.state = .preroll
    (∀ code c, (code, c) ∈
        [(7, Instr.release mtag entry), (8, Instr.cancel mtag entry), (9, Instr.meter mtag entry)] →
      s.orderArrives mtag index code entry → shapeOk code entry = true →
      (b.gen ≠ h.gen → exec c s = .next (s.refusedWith mtag index entry .noBooking)) ∧
      (b.gen = h.gen → ((code = 8 ∧ ¬waits) ∨ (code ≠ 8 ∧ ¬aired)) →
        exec c s = .next (s.refusedWith mtag index entry .wrongState))) ∧
    (s.orderArrives mtag index 7 entry → shapeOk 7 entry = true → b.gen = h.gen → aired →
      exec (.release mtag entry) s =
        .next ((s0.closeBooking h.index .released false).doneWith index entry false
          (.release h now))) ∧
    (s.orderArrives mtag index 8 entry → shapeOk 8 entry = true → b.gen = h.gen → waits →
      exec (.cancel mtag entry) s =
        .next (State.doneWith
          (State.closeBooking h.index .cancelled false
            { s0 with bookings := s.bookings.set h.index { b with cancelTime := some now } })
          index entry false
          (.cancel h (decide (b.startS - now < b.tariff.lateWindow)) now))) ∧
    (s.orderArrives mtag index 9 entry → shapeOk 9 entry = true → b.gen = h.gen → aired →
      ∃ m : Meter,
        (b.meter.openSpan = none → m = b.meter) ∧
        (∀ o, b.meter.openSpan = some o → m =
          { b.meter with
            spans := min 4294967295 (b.meter.spans + 1)
            longest := max b.meter.longest (now - o)
            qualifying := if b.tariff.threshold ≤ now - o then b.meter.qualifying + (now - o)
              else b.meter.qualifying
            openSpan := none }) ∧
        exec (.meter mtag entry) s =
          .next (s0.answerOrder
            (.meter
              { tag := word32At entry 4, index, handle := { index := h.index, gen := b.gen },
                state := b.state, startS := b.startS, endE := b.endE, actStart := b.actStart,
                actEnd := now, charges := chargesAired b m now, spans := m.spans,
                longest := m.longest, openLength := b.meter.openSpan.map fun o => now - o,
                delivered := m.delivered, deliveredBytes := m.deliveredBytes, fills := m.fills,
                skipped := m.skipped, legSwitches := m.legSwitches })))

/-- DEFINE_WINDOW: MALFORMED, RANGE, IN_USE, else the tag and the guard depth, held at half the ring depth. -/
def Obligations.DefineWindowRecordsTagAndGuard : Prop :=
  ∀ (s : State) (mtag index : Nat) (entry : List Byte),
    s.orderArrives mtag index 10 entry →
    (∀ i, i < 128 → fieldByte 10 entry i = false → byteAt entry i ≠ 0 →
      exec (.defineWindow mtag entry) s = .next (s.refusedWith mtag index entry .malformed)) ∧
    (shapeOk 10 entry = true → 32 ≤ field entry 8 2 →
      exec (.defineWindow mtag entry) s = .next (s.refusedWith mtag index entry .range)) ∧
    ∀ i : Fin 32, shapeOk 10 entry = true → field entry 8 2 = i.val →
      let w := s.windows[i]
      let tag := word16At entry 0x0A
      let asked := field entry 0x0C 2
      let half := s.ctl.settings.d / 2
      let guard := if half < asked then half else asked
      (w.holder ≠ none → tag ≠ w.tag →
        exec (.defineWindow mtag entry) s = .next (s.refusedWith mtag index entry .inUse)) ∧
      ((w.holder = none ∨ tag = w.tag) →
        exec (.defineWindow mtag entry) s =
          .next (State.doneWith
            { s with
              port := s.port.drop mtag
              windows := s.windows.set i { w with defined := true, tag, guard } }
            index entry (decide (half < asked))
            (.defineWindow i w.defined tag guard
              { takePending := w.takePending, shift := w.shift, holder := w.holder, last := w.last,
                dseq := w.dseq, fillRun := w.fillRun, counters := w.counters })))

/-- The pre-roll expiry and the line-check wait: PREROLL entry, or the close of a booking that names a source not
enabled, marked WITHDRAWN; the line check's end and its notice.
A command whose condition does not hold is no event (the model's choice, log 3). -/
def Obligations.PrerollAndLineCheck : Prop :=
  ∀ (s : State) (i : Fin 256),
    let b := s.bookings[i]
    let now := s.time.house
    let waits := (∃ x ∈ b.sources, s.health[x].state = .absent) ∧ s.ctl.settings.lineWait ≠ 0
    (b.state = .pending → ∀ e, b.prerollExp = some e → e ≤ now →
      ((∃ x ∈ b.sources, s.sources[x].enabled = false) →
        exec (.prerollExpiry i) s =
          .next (State.closeBooking i .cancelled true
            { s with bookings := s.bookings.set i { b with cancelTime := some now } })) ∧
      ((∀ x ∈ b.sources, s.sources[x].enabled = true) →
        exec (.prerollExpiry i) s = .next (s.enterPreroll i))) ∧
    ((b.state ≠ .pending ∨ ∀ e, b.prerollExp = some e → now < e) →
      exec (.prerollExpiry i) s = .next s) ∧
    (∃ v : State, v = { s with
        bookings := s.bookings.set i
          { b with state := .preroll, prerollExp := none, startExp := some b.startS }
        legs := if b.mode = .switch then
          s.legs.set i (some { active := none, forced := .auto, wtrExp := none }) else s.legs
        useCounts := v.useCounts } ∧
      (b.backup ≠ some b.main → ∀ x : Fin 48, v.useCounts[x] =
        if x = b.main ∨ b.backup = some x then s.useCounts[x] + 1 else s.useCounts[x]) ∧
      (waits → s.enterPreroll i =
        { v with
          bookings := s.bookings.set i
            { b with
              state := .preroll, prerollExp := none, startExp := some b.startS
              lineCheck := .waiting, lineExp := some (now + s.ctl.settings.lineWait) } }) ∧
      (¬waits → s.enterPreroll i = v.endLineCheck i .entry)) ∧
    (b.lineCheck = .waiting → ∀ e, b.lineExp = some e → e ≤ now →
      exec (.lineCheckWaitExpiry i) s = .next (s.endLineCheck i .wait)) ∧
    ((b.lineCheck ≠ .waiting ∨ ∀ e, b.lineExp = some e → now < e) →
      exec (.lineCheckWaitExpiry i) s = .next s) ∧
    ∀ trigger,
      s.endLineCheck i trigger =
        State.offer
          (.lineCheck
            { handle := { index := i, gen := b.gen }, trigger
              result :=
                if s.available b.main then .ready
                else if s.backupAvailable b.backup then .degraded
                else .notReady
              mainHealth := s.health[b.main].state
              backupHealth := b.backup.map fun x => s.health[x].state })
          { s with bookings := s.bookings.set i { b with lineCheck := .done, lineExp := none } }

/-- The start: the holders of the booking's windows close first, in ascending order, YIELDED or PLANNED; then the
booking enters ON_AIR. The end expiry: OVERRUN with its cap and notice, or the close PLANNED; the overrun cap: the
close CAPPED.
A command whose condition does not hold is no event (the model's choice, log 3). -/
def Obligations.StartAndEndExpiries : Prop :=
  (∀ (s : State) (i : Fin 256),
     let b := s.bookings[i]
     let holders := (List.finRange 256).filter fun a =>
       decide (a ≠ i ∧ ∃ w ∈ b.windows, (s.windows[w].holder.map fun h => h.index) = some a)
     (∀ fresh, s.startBooking i fresh =
       State.enterOnAir i fresh holders.length
         (holders.foldl
           (fun v a =>
             v.closeBooking a
               (if v.bookings[a].state = .overrun ∨
                   (v.bookings[a].holdOn = true ∧ 0 < v.bookings[a].maxOver) then .yielded
                 else .planned) false) s)) ∧
     (b.state = .preroll → ∀ e, b.startExp = some e → e ≤ s.time.house →
       exec (.startExpiry i) s = .next (s.startBooking i false)) ∧
     ((b.state ≠ .preroll ∨ ∀ e, b.startExp = some e → s.time.house < e) →
       exec (.startExpiry i) s = .next s)) ∧
  ∀ (s : State) (i : Fin 256),
    let b := s.bookings[i]
    (b.state = .onAir → ∀ e, b.endExp = some e → e ≤ s.time.house →
      (b.holdOn = true → 0 < b.maxOver →
        exec (.endExpiry i) s =
          .next (State.offer
            (.overrun
              { handle := { index := i, gen := b.gen }, windows := b.windows, endE := b.endE,
                capTime := b.endE + b.maxOver })
            { s with
              bookings := s.bookings.set i
                { b with
                  state := .overrun, endExp := none, capExp := some (b.endE + b.maxOver) } })) ∧
      ((b.holdOn = false ∨ b.maxOver = 0) →
        exec (.endExpiry i) s = .next (s.closeBooking i .planned false))) ∧
    ((b.state ≠ .onAir ∨ ∀ e, b.endExp = some e → s.time.house < e) →
      exec (.endExpiry i) s = .next s) ∧
    (b.state = .overrun → ∀ e, b.capExp = some e → e ≤ s.time.house →
      exec (.overrunCapExpiry i) s = .next (s.closeBooking i .capped false)) ∧
    ((b.state ≠ .overrun ∨ ∀ e, b.capExp = some e → s.time.house < e) →
      exec (.overrunCapExpiry i) s = .next s)

/-- ON_AIR entry: the entry, the windows routed in list order, the leg record, the span, the use counts and the
notices: a line check not yet DONE ends with a LINE_CHECK notice of trigger START (R114), and the ON_AIR notice
stands last; no other booking, window or source changes. -/
def Obligations.OnAirEntryRoutesTheWindows : Prop :=
  ∀ (s : State) (i : Fin 256) (fresh : Bool) (closed : Nat),
    let b := s.bookings[i]
    let now := s.time.house
    let u := s.enterOnAir i fresh closed
    b.meter.openSpan = none → b.lineCheck ≠ .done ∨ b.lineExp = none →
    (u.bookings[i] =
      { b with
        state := .onAir, actStart := some now, startExp := none, endExp := some b.endE
        lineCheck := .done, lineExp := none
        meter := { b.meter with openSpan := if u.deliverable i then none else some now } }) ∧
    (∀ j, j ≠ i → u.bookings[j] = s.bookings[j] ∧ u.legs[j] = s.legs[j]) ∧
    (∀ w ∈ b.windows, u.windows[w] =
      { s.windows[w] with
        holder := some { index := i, gen := b.gen }, takePending := true, last := none
        disc := false, fillRun := 0, bindings := s.windows[w].bindings.map fun _ => .none }) ∧
    (∀ w : Fin 32, w ∉ b.windows → u.windows[w] = s.windows[w]) ∧
    (b.mode ≠ .switch → u.legs = s.legs) ∧
    (b.mode = .switch → ∀ l,
      (if fresh then some { active := none, forced := .auto, wtrExp := none } else s.legs[i]) =
        some l →
      u.legs[i] = some
        { forced := l.forced, wtrExp := none
          active := some
            (match l.forced with
              | .main => .main
              | .backup => .backup
              | .auto =>
                if s.available b.main then .main
                else if s.backupAvailable b.backup then .backup else .main) }) ∧
    (fresh = false → u.useCounts = s.useCounts) ∧
    (fresh = true → b.backup ≠ some b.main → ∀ x : Fin 48, u.useCounts[x] =
      if x = b.main ∨ b.backup = some x then s.useCounts[x] + 1 else s.useCounts[x]) ∧
    (s.poster.haltPlaced = false → s.poster.used ≤ 10 → u.poster =
      { s.poster with
        hold := s.poster.hold ++
          (if b.lineCheck = .done then [] else
            [{ created := now
               body := .lineCheck
                { handle := { index := i, gen := b.gen }
                  result :=
                    if s.available b.main then .ready
                    else if s.backupAvailable b.backup then .degraded else .notReady
                  trigger := .start, mainHealth := s.health[b.main].state
                  backupHealth := b.backup.map fun x => s.health[x].state } }]) ++
          [{ created := now
             body := .onAir
              { handle := { index := i, gen := b.gen }, mode := b.mode
                active := if b.mode = .switch then u.activeOf i else none
                deliverable := u.deliverable i, mainHealth := s.health[b.main].state
                backupHealth := b.backup.map fun x => s.health[x].state, closed, actStart := now
                endE := b.endE, windows := b.windows } }] }) ∧
    s.tablesOnly u ∧ u.sources = s.sources ∧ u.health = s.health ∧ u.calendar = s.calendar ∧
    u.settlements = s.settlements

/-! ### The hold queue and the report ring (R33 to R45, R166) -/

/-- The hold queue: a notice is accepted while 5 entries are free and the HALT completion is not placed, else
dropped and counted; a settlement leaves the list while an entry is free, and its booking entry becomes
FREE.
A command whose condition does not hold is no event (the model's choice, log 3). -/
def Obligations.HoldQueueTakesReports : Prop :=
  ∀ s : State,
    (∀ body, s.poster.used + 5 ≤ 16 → s.poster.haltPlaced = false →
      s.offer body =
        { s with
          poster := { s.poster with
            hold := s.poster.hold ++ [{ created := s.time.house, body }] } }) ∧
    (∀ body, (16 < s.poster.used + 5 ∨ s.poster.haltPlaced = true) →
      s.offer body =
        { s with poster := { s.poster with lost := min 65535 (s.poster.lost + 1) } }) ∧
    ((s.settlements = [] ∨ 16 ≤ s.poster.used) →
      exec .settlementEntry s = .next s ∧ s.drainSettlements = s) ∧
    (∀ i rest x, s.settlements = i :: rest → s.bookings[i].held = some x → s.poster.used < 16 →
      let t : State := { s with
        settlements := rest
        bookings := s.bookings.set i { s.bookings[i] with state := .free, held := none }
        poster := { s.poster with
          hold := s.poster.hold ++ [{ created := x.created, body := .settlement x }] } }
      exec .settlementEntry s = .next t ∧ s.drainSettlements = t.drainSettlements)

/-- A report write begins with no write in flight, an occupied entry and room in the ring: the oldest report is
written at the head, with the lost-notice count, which becomes 0. The write carries the 128 bytes of the report
field by field, as Tables 9-8 to 9-15 lay them out, with the codes of Table 9-1; every other byte is 0 (R174). A
STRAY notice names the last offender as it stands at this moment (R14). (That the monitor records the notice's ring
index at the OKAY response and not at the begin is the model's reading, log 17.)
A command whose condition does not hold is no event (the model's choice, log 3). -/
def Obligations.ReportWriteBegins : Prop :=
  (∀ s : State,
    (∀ r rest, s.poster.hold = r :: rest → s.poster.posting = none →
      (s.poster.head + 1) % s.ctl.settings.reportCount ≠ s.poster.consumer →
      ∃ data, holdsFields data (r.layout s.poster.lost s.path.stray.lastOffender) ∧
        field data 0 1 = r.body.code ∧
        (s.poster.lost ≤ 65535 → field data 1 2 = s.poster.lost) ∧
        (r.created < 2 ^ 40 → field data 3 5 = r.created) ∧
        exec .reportWriteBegin s =
          .next (State.place
            { purpose := .reportWrite s.poster.head,
              addr := s.ctl.settings.reportBase + s.poster.head * 128,
              access := .write (data.map fun b => (b, true)) }
            { s with
              poster := { s.poster with
                posting := some { index := s.poster.head, lost := s.poster.lost }, lost := 0 } })) ∧
    ((s.poster.hold = [] ∨ s.poster.posting ≠ none ∨
        (s.poster.head + 1) % s.ctl.settings.reportCount = s.poster.consumer) →
      exec .reportWriteBegin s = .next s)) ∧
  (∀ (c : Completion) (m : MeterReport) (x : Settlement) (health : HealthNotice) (leg : LegNotice)
    (line : LineCheckNotice) (air : OnAirNotice) (overrun : OverrunNotice) (rate : RateNotice)
    (stray : StrayNotice) (bad : BadIndexNotice),
    [ReportBody.completion c, .meter m, .settlement x, .health health, .leg leg, .lineCheck line, .onAir air,
      .overrun overrun, .rate rate, .stray stray, .badIndex bad].map ReportBody.code =
        [1, 2, 3, 4, 5, 6, 7, 8, 9, 10, 11]) ∧
  [OrderReason.malformed, .range, .noTariff, .noSource, .noWindow, .tooLate, .tableFull, .conflict,
      .noBooking, .wrongState, .inUse, .busy, .memory].map OrderReason.code =
    [1, 2, 3, 4, 5, 6, 7, 8, 9, 10, 11, 12, 13] ∧
  [FaultMode.latched, .recovering].map FaultMode.code = [0, 1] ∧
  [HealthState.disabled, .absent, .good, .suspect, .failed].map HealthState.code = [0, 1, 2, 3, 4] ∧
  [none, some HealthState.failed].map healthCode? = [255, 4] ∧
  [none, some FailureCause.silent, some .impaired].map failureCode? = [0, 1, 2] ∧
  [HealthCause.accepted, .gap, .torn, .check, .tag, .length, .misplaced, .silence, .enable, .disable,
      .clear].map HealthCause.code = [1, 2, 3, 4, 5, 6, 7, 8, 9, 10, 11] ∧
  [BookingState.free, .pending, .preroll, .onAir, .overrun, .settling].map BookingState.code =
    [0, 1, 2, 3, 4, 5] ∧
  [EndReason.planned, .released, .yielded, .capped, .cancelled, .halted].map EndReason.code =
    [1, 2, 3, 4, 5, 6] ∧
  [Protection.none, .switch, .merge].map Protection.code = [0, 1, 2] ∧
  [ForcedLeg.auto, .main, .backup].map ForcedLeg.code = [0, 1, 2] ∧
  [LegName.main, .backup].map LegName.code = [1, 2] ∧
  [none, some LegName.main, some .backup].map legCode? = [255, 1, 2] ∧
  [LegCause.loss, .restore, .forced].map LegCause.code = [1, 2, 3] ∧
  [LineCheckResult.ready, .degraded, .notReady].map LineCheckResult.code = [1, 2, 3] ∧
  [LineCheckTrigger.entry, .health, .wait, .start].map LineCheckTrigger.code = [1, 2, 3, 4] ∧
  [StrayKind.boundary, .span, .ingressWrite, .ingressRead, .deliveryWrite, .deliveryRead].map
    StrayKind.code = [1, 2, 3, 4, 5, 6] ∧
  [WatchedWord.orderTail, .reportConsumer].map WatchedWord.code = [1, 2]

/-- The response to a report write: on OKAY the head advances and its word is written; on FAULT the report is
discarded and counted lost. A STRAY notice tells the stray monitor (that its ring index is recorded at the OKAY
response is the model's reading, log 17); settlements that wait then enter; the
HALT completion places the PASSIVE status write. -/
def Obligations.ReportWriteResponseFreesTheEntry : Prop :=
  ∀ (s : State) (mtag index : Nat) (okay : Bool) (r : Report) (rest : List Report) (x : Posting),
    s.port.ownPurpose mtag = some (.reportWrite index) → s.poster.hold = r :: rest →
    s.poster.posting = some x →
    let isStray := ∃ n, r.body = .stray n
    let isHalt := ∃ c f, r.body = .completion c ∧ c.outcome = .done f .halt
    let head := (s.poster.head + 1) % s.ctl.settings.reportCount
    let s1 : State := { s with port := s.port.drop mtag }
    ∃ (final : Bool) (stray : StrayMonitor) (v : State), (final = true ↔ isHalt) ∧
      (¬isStray → stray = s.path.stray) ∧
      (isStray → okay = true → stray = { s.path.stray with index := some x.index }) ∧
      (isStray → okay = false → stray = { s.path.stray with outstanding := false, index := none }) ∧
      (okay = true → v = State.place
        { purpose := .reportHead head final, addr := s.path.pageBase + 0x308,
          access := .write ((leBytes 4 head).map fun b => (b, true)) }
        { s1 with
          path := { s.path with stray }
          poster := { s.poster with hold := rest, posting := none, head } }) ∧
      (okay = false → v =
        { s1 with
          path := { s.path with stray }
          poster := { s.poster with
            hold := rest, posting := none, lost := min 65535 (x.lost + s.poster.lost + 1) } }) ∧
      (¬isHalt → exec (.reportWriteResponse mtag okay) s = .next v.drainSettlements) ∧
      (isHalt → exec (.reportWriteResponse mtag okay) s =
        .next (State.place
          { purpose := .status true, addr := s.path.pageBase + 0x108,
            access := .write
              (([3#8, 0, 0, 0] ++ leBytes 4 s.ctl.check.toNat).map fun b => (b, true)) }
          { v.drainSettlements with
            ctl := { s.ctl with passiveWait := some { status := true, head := okay } } }))

/-- ATTN is asserted while the rejected flag is set, or while ATTN is enabled and the published report head differs
from the report consumer, and at no other time (R42). The head-word and status-word responses, OKAY or FAULT alike:
the latest answered head word in issue order is the published head (the issue order is that of the memory tags,
which never repeat: the model's own, log 8); PASSIVE entry follows the last response it waits for. At PASSIVE entry
the control monitor, the poster and the tables take their RESET values but for the generations, the regions and
classes are gone, own traffic is discarded and house time stops; the system port's traffic stays. (That the recorded
settings but for the ATTN enable, the START value and the check are 0 from there on is the model's choice, log 2,
and that the slot and binding tables have no entry, log 18.) -/
def Obligations.WordResponsesAndPassiveEntry : Prop :=
  (∀ s : State, s.attn = true ↔ s.ctl.rejected = true ∨
    (s.ctl.settings.attnEnable = true ∧ s.poster.published ≠ s.poster.consumer)) ∧
  (∀ (s : State) (mtag : Nat) (okay : Bool),
     let s0 : State := { s with port := s.port.drop mtag }
     let later := ∀ t, s.poster.publishedTag = some t → t < mtag
     let wait := fun (w : Option PassiveWait) (v : State) => { v with ctl := { v.ctl with passiveWait := w } }
     (∀ value final, s.port.ownPurpose mtag = some (.reportHead value final) →
       ∃ v : State,
         (later → v = { s0 with
           poster := { s.poster with published := value, publishedTag := some mtag } }) ∧
         (¬later → v = s0) ∧
         (final = false → s.ctl.passiveWait ≠ some { status := false, head := false } →
           exec (.headWordWriteResponse mtag okay) s = .next v) ∧
         (∀ h, final = true → s.ctl.passiveWait = some { status := true, head := h } →
           exec (.headWordWriteResponse mtag okay) s =
             .next (wait (some { status := true, head := false }) v)) ∧
         (∀ h, final = true → s.ctl.passiveWait = some { status := false, head := h } →
           exec (.headWordWriteResponse mtag okay) s = .next v.passiveEntry)) ∧
     (∀ value, s.port.ownPurpose mtag = some (.orderHead value) →
       exec (.statusWordWriteResponse mtag okay) s = .next s0) ∧
     (s.port.ownPurpose mtag = some (.status false) →
       s.ctl.passiveWait ≠ some { status := false, head := false } →
       exec (.statusWordWriteResponse mtag okay) s = .next s0) ∧
     (s.port.ownPurpose mtag = some (.status true) →
       (∀ t, s.ctl.passiveWait = some { status := t, head := true } →
         exec (.statusWordWriteResponse mtag okay) s =
           .next (wait (some { status := false, head := true }) s0)) ∧
       ∀ t, s.ctl.passiveWait = some { status := t, head := false } →
         exec (.statusWordWriteResponse mtag okay) s = .next s0.passiveEntry)) ∧
  ∀ s : State,
    let u := s.passiveEntry
    u.ctl =
      { act := .passive, startValue := 0, rejected := false, check := 0
        settings :=
          { d := 0, z := 0, lmin := 0, preroll := 0, lineWait := 0, attnEnable := false, orderBase := 0,
            orderCount := 0, reportBase := 0, reportCount := 0 }
        tail := 0, head := 0, fetching := false, haltAnswer := none, passiveWait := none } ∧
    u.attn = false ∧
    u.poster =
      { consumer := 0, head := 0, published := 0, publishedTag := none, hold := [], reserved := false,
        lost := 0, posting := none, haltPlaced := false } ∧
    u.path =
      { s.path with
        ingress := none, delivery := none, classMap := Vector.replicate 16 .other
        stray := { s.path.stray with outstanding := false, index := none } } ∧
    u.port =
      { s.port with
        own := [], ownWaiting := []
        outstanding := s.port.outstanding.filter fun o => !o.purpose.isOwn } ∧
    u.time = { s.time with running := false, prescaler := 0, rateExpiry := none } ∧
    u.sources = State.reset.sources ∧ u.health = State.reset.health ∧ u.legs = State.reset.legs ∧
    u.tariffs = State.reset.tariffs ∧ u.windows = State.reset.windows ∧
    u.calendar = State.reset.calendar ∧ u.useCounts = State.reset.useCounts ∧
    (∀ i : Fin 256, u.bookings[i] = { State.reset.bookings[i] with gen := s.bookings[i].gen }) ∧
    u.settlements = [] ∧ u.pending = s.pending ∧ u.resetLine = s.resetLine

/-- HALT: HALTING, the head advances, every booking not closed closes HALTED in ascending order, and the reserved
entry waits for the completion, which HALT_COMPLETION places when the settlement list is empty (its creation
time is the execution's: the model's reading, log 16).
A command whose condition does not hold is no event (the model's choice, log 3). -/
def Obligations.HaltClosesEveryBooking : Prop :=
  (∀ (s : State) (mtag index : Nat) (entry : List Byte),
    s.orderArrives mtag index 12 entry → shapeOk 12 entry = true →
    let head := (s.ctl.head + 1) % s.ctl.settings.orderCount
    ∃ u, exec (.halt mtag entry) s = .next u ∧
      u = ((List.finRange 256).filter fun i =>
          decide (s.bookings[i].state ≠ .free ∧ s.bookings[i].state ≠ .settling)).foldl
        (fun v i => v.closeBooking i .halted false)
        (State.place
          { purpose := .orderHead head, addr := s.path.pageBase + 0x208,
            access := .write ((leBytes 4 head).map fun b => (b, true)) }
          { s with
            port := s.port.drop mtag
            ctl := { s.ctl with
              act := .halting, head, fetching := false
              haltAnswer := some { tag := word32At entry 4, index, created := s.time.house } } }) ∧
      u.ctl.act = .halting ∧ u.poster.reserved = true ∧
      ∀ i : Fin 256, u.bookings[i].state = .free ∨ u.bookings[i].state = .settling) ∧
  ∀ s : State,
    (∀ a, s.ctl.haltAnswer = some a → s.ctl.act = .halting → s.settlements = [] →
      s.poster.reserved = true →
      exec .haltCompletion s =
        .next { s with
          ctl := { s.ctl with haltAnswer := none }
          poster := { s.poster with
            reserved := false, haltPlaced := true
            hold := s.poster.hold ++
              [{ created := a.created,
                 body := .completion
                   { kind := 12, tag := a.tag, index := a.index,
                     outcome := .done false .halt } }] } }) ∧
    ((s.ctl.haltAnswer = none ∨ s.ctl.act ≠ .halting ∨ s.settlements ≠ []) →
      exec .haltCompletion s = .next s)

/-! ### Invariants: what every step keeps -/

/-- The queues keep their sizes (R16, R17, R33, R39), and a settlement waits only while no hold-queue entry is free
(R34, R35). -/
def Obligations.QueuesStayBoundedAndSettlementsWait : Prop :=
  (∀ s t : State, s.queuesBounded → step s = .next t → t.queuesBounded) ∧
  ∀ s t : State, s.settlementsWait → step s = .next t → t.settlementsWait

/-- The time base keeps its ranges and runs exactly in ACTIVE and HALTING, and the order processor fetches in
ACTIVE alone (R28, R47, R48). No step leaves the rate-interval expiry or a silence expiry behind house time (R51,
R56). -/
def Obligations.TimeBaseStaysLawful : Prop :=
  (∀ s t : State, s.timeLaw → s.fetchLaw → step s = .next t → t.timeLaw ∧ t.fetchLaw) ∧
  ∀ s t : State, s.timeLaw → s.aheadLaw → step s = .next t → t.aheadLaw

/-- Every valid slot entry stands at its sequence modulo D and is not newer than the last accepted sequence
(R71). -/
def Obligations.SlotTablesStayConsistent : Prop :=
  ∀ s t : State, s.slotLaw → step s = .next t → t.slotLaw

/-- The health records keep their law (R81, R87, R89). -/
def Obligations.HealthRecordsStayLawful : Prop :=
  ∀ s t : State, s.healthLaw → step s = .next t → t.healthLaw

/-- Window holders are bookings on air that name the window, and the settlement list holds the bookings in
SETTLING (R130, R166). -/
def Obligations.HoldersAndSettlementsStayLawful : Prop :=
  ∀ s t : State, s.holderLaw → s.settlementLaw → step s = .next t → t.holderLaw ∧ t.settlementLaw

/-- Every SOURCE binding is of a held window, of a source its holder names, and not newer than the last delivered
sequence (R146); the premises on holders and settlements are invariants stated above. -/
def Obligations.BindingsStayLawful : Prop :=
  ∀ s t : State, s.holderLaw → s.settlementLaw → s.bindingLaw → s.bindingSourceLaw →
    step s = .next t → t.bindingLaw ∧ t.bindingSourceLaw

/-- The calendar keeps its law: no two bookings not closed overlap on a window (R106). -/
def Obligations.CalendarStaysWithoutOverlap : Prop :=
  ∀ s t : State, s.holderLaw → s.settlementLaw → s.calendarLaw → step s = .next t → t.calendarLaw

/-- Each use count is the number of bookings that hold the source, and a source in use is enabled (R108). -/
def Obligations.UseCountsStayExact : Prop :=
  ∀ s t : State, s.holderLaw → s.settlementLaw → s.useLaw → step s = .next t → t.useLaw

/-- Leg records and expiries follow the states of the bookings (R92, Table 6-4). -/
def Obligations.LegsAndExpiriesFollowTheState : Prop :=
  ∀ s t : State, s.holderLaw → s.settlementLaw → s.legLaw → s.expiryLaw →
    step s = .next t → t.legLaw ∧ t.expiryLaw
end

