-- ==== Sys2Proof/Laws/State.lean ====
section
/-! SUPPORT. One lemma for each field of State and each named update: what the update leaves, and what it
writes. Each is true by definition. -/

namespace Sys2Proof.Machine

@[simp] theorem State.modPath_pending (f : PathState → PathState) (s : State) : (s.modPath f).pending = s.pending := rfl
@[simp] theorem State.modPath_resetLine (f : PathState → PathState) (s : State) : (s.modPath f).resetLine = s.resetLine := rfl
@[simp] theorem State.modPath_path (f : PathState → PathState) (s : State) : (s.modPath f).path = f s.path := rfl
@[simp] theorem State.modPath_port (f : PathState → PathState) (s : State) : (s.modPath f).port = s.port := rfl
@[simp] theorem State.modPath_ctl (f : PathState → PathState) (s : State) : (s.modPath f).ctl = s.ctl := rfl
@[simp] theorem State.modPath_poster (f : PathState → PathState) (s : State) : (s.modPath f).poster = s.poster := rfl
@[simp] theorem State.modPath_time (f : PathState → PathState) (s : State) : (s.modPath f).time = s.time := rfl
@[simp] theorem State.modPath_sources (f : PathState → PathState) (s : State) : (s.modPath f).sources = s.sources := rfl
@[simp] theorem State.modPath_health (f : PathState → PathState) (s : State) : (s.modPath f).health = s.health := rfl
@[simp] theorem State.modPath_legs (f : PathState → PathState) (s : State) : (s.modPath f).legs = s.legs := rfl
@[simp] theorem State.modPath_tariffs (f : PathState → PathState) (s : State) : (s.modPath f).tariffs = s.tariffs := rfl
@[simp] theorem State.modPath_bookings (f : PathState → PathState) (s : State) : (s.modPath f).bookings = s.bookings := rfl
@[simp] theorem State.modPath_calendar (f : PathState → PathState) (s : State) : (s.modPath f).calendar = s.calendar := rfl
@[simp] theorem State.modPath_useCounts (f : PathState → PathState) (s : State) : (s.modPath f).useCounts = s.useCounts := rfl
@[simp] theorem State.modPath_windows (f : PathState → PathState) (s : State) : (s.modPath f).windows = s.windows := rfl
@[simp] theorem State.modPath_settlements (f : PathState → PathState) (s : State) : (s.modPath f).settlements = s.settlements := rfl
@[simp] theorem State.modPath_now (f : PathState → PathState) (s : State) : (s.modPath f).now = s.now := rfl

@[simp] theorem State.modPort_pending (f : Port → Port) (s : State) : (s.modPort f).pending = s.pending := rfl
@[simp] theorem State.modPort_resetLine (f : Port → Port) (s : State) : (s.modPort f).resetLine = s.resetLine := rfl
@[simp] theorem State.modPort_path (f : Port → Port) (s : State) : (s.modPort f).path = s.path := rfl
@[simp] theorem State.modPort_port (f : Port → Port) (s : State) : (s.modPort f).port = f s.port := rfl
@[simp] theorem State.modPort_ctl (f : Port → Port) (s : State) : (s.modPort f).ctl = s.ctl := rfl
@[simp] theorem State.modPort_poster (f : Port → Port) (s : State) : (s.modPort f).poster = s.poster := rfl
@[simp] theorem State.modPort_time (f : Port → Port) (s : State) : (s.modPort f).time = s.time := rfl
@[simp] theorem State.modPort_sources (f : Port → Port) (s : State) : (s.modPort f).sources = s.sources := rfl
@[simp] theorem State.modPort_health (f : Port → Port) (s : State) : (s.modPort f).health = s.health := rfl
@[simp] theorem State.modPort_legs (f : Port → Port) (s : State) : (s.modPort f).legs = s.legs := rfl
@[simp] theorem State.modPort_tariffs (f : Port → Port) (s : State) : (s.modPort f).tariffs = s.tariffs := rfl
@[simp] theorem State.modPort_bookings (f : Port → Port) (s : State) : (s.modPort f).bookings = s.bookings := rfl
@[simp] theorem State.modPort_calendar (f : Port → Port) (s : State) : (s.modPort f).calendar = s.calendar := rfl
@[simp] theorem State.modPort_useCounts (f : Port → Port) (s : State) : (s.modPort f).useCounts = s.useCounts := rfl
@[simp] theorem State.modPort_windows (f : Port → Port) (s : State) : (s.modPort f).windows = s.windows := rfl
@[simp] theorem State.modPort_settlements (f : Port → Port) (s : State) : (s.modPort f).settlements = s.settlements := rfl
@[simp] theorem State.modPort_now (f : Port → Port) (s : State) : (s.modPort f).now = s.now := rfl

@[simp] theorem State.modCtl_pending (f : Control → Control) (s : State) : (s.modCtl f).pending = s.pending := rfl
@[simp] theorem State.modCtl_resetLine (f : Control → Control) (s : State) : (s.modCtl f).resetLine = s.resetLine := rfl
@[simp] theorem State.modCtl_path (f : Control → Control) (s : State) : (s.modCtl f).path = s.path := rfl
@[simp] theorem State.modCtl_port (f : Control → Control) (s : State) : (s.modCtl f).port = s.port := rfl
@[simp] theorem State.modCtl_ctl (f : Control → Control) (s : State) : (s.modCtl f).ctl = f s.ctl := rfl
@[simp] theorem State.modCtl_poster (f : Control → Control) (s : State) : (s.modCtl f).poster = s.poster := rfl
@[simp] theorem State.modCtl_time (f : Control → Control) (s : State) : (s.modCtl f).time = s.time := rfl
@[simp] theorem State.modCtl_sources (f : Control → Control) (s : State) : (s.modCtl f).sources = s.sources := rfl
@[simp] theorem State.modCtl_health (f : Control → Control) (s : State) : (s.modCtl f).health = s.health := rfl
@[simp] theorem State.modCtl_legs (f : Control → Control) (s : State) : (s.modCtl f).legs = s.legs := rfl
@[simp] theorem State.modCtl_tariffs (f : Control → Control) (s : State) : (s.modCtl f).tariffs = s.tariffs := rfl
@[simp] theorem State.modCtl_bookings (f : Control → Control) (s : State) : (s.modCtl f).bookings = s.bookings := rfl
@[simp] theorem State.modCtl_calendar (f : Control → Control) (s : State) : (s.modCtl f).calendar = s.calendar := rfl
@[simp] theorem State.modCtl_useCounts (f : Control → Control) (s : State) : (s.modCtl f).useCounts = s.useCounts := rfl
@[simp] theorem State.modCtl_windows (f : Control → Control) (s : State) : (s.modCtl f).windows = s.windows := rfl
@[simp] theorem State.modCtl_settlements (f : Control → Control) (s : State) : (s.modCtl f).settlements = s.settlements := rfl
@[simp] theorem State.modCtl_now (f : Control → Control) (s : State) : (s.modCtl f).now = s.now := rfl

@[simp] theorem State.modPoster_pending (f : Poster → Poster) (s : State) : (s.modPoster f).pending = s.pending := rfl
@[simp] theorem State.modPoster_resetLine (f : Poster → Poster) (s : State) : (s.modPoster f).resetLine = s.resetLine := rfl
@[simp] theorem State.modPoster_path (f : Poster → Poster) (s : State) : (s.modPoster f).path = s.path := rfl
@[simp] theorem State.modPoster_port (f : Poster → Poster) (s : State) : (s.modPoster f).port = s.port := rfl
@[simp] theorem State.modPoster_ctl (f : Poster → Poster) (s : State) : (s.modPoster f).ctl = s.ctl := rfl
@[simp] theorem State.modPoster_poster (f : Poster → Poster) (s : State) : (s.modPoster f).poster = f s.poster := rfl
@[simp] theorem State.modPoster_time (f : Poster → Poster) (s : State) : (s.modPoster f).time = s.time := rfl
@[simp] theorem State.modPoster_sources (f : Poster → Poster) (s : State) : (s.modPoster f).sources = s.sources := rfl
@[simp] theorem State.modPoster_health (f : Poster → Poster) (s : State) : (s.modPoster f).health = s.health := rfl
@[simp] theorem State.modPoster_legs (f : Poster → Poster) (s : State) : (s.modPoster f).legs = s.legs := rfl
@[simp] theorem State.modPoster_tariffs (f : Poster → Poster) (s : State) : (s.modPoster f).tariffs = s.tariffs := rfl
@[simp] theorem State.modPoster_bookings (f : Poster → Poster) (s : State) : (s.modPoster f).bookings = s.bookings := rfl
@[simp] theorem State.modPoster_calendar (f : Poster → Poster) (s : State) : (s.modPoster f).calendar = s.calendar := rfl
@[simp] theorem State.modPoster_useCounts (f : Poster → Poster) (s : State) : (s.modPoster f).useCounts = s.useCounts := rfl
@[simp] theorem State.modPoster_windows (f : Poster → Poster) (s : State) : (s.modPoster f).windows = s.windows := rfl
@[simp] theorem State.modPoster_settlements (f : Poster → Poster) (s : State) : (s.modPoster f).settlements = s.settlements := rfl
@[simp] theorem State.modPoster_now (f : Poster → Poster) (s : State) : (s.modPoster f).now = s.now := rfl

@[simp] theorem State.modTime_pending (f : TimeBase → TimeBase) (s : State) : (s.modTime f).pending = s.pending := rfl
@[simp] theorem State.modTime_resetLine (f : TimeBase → TimeBase) (s : State) : (s.modTime f).resetLine = s.resetLine := rfl
@[simp] theorem State.modTime_path (f : TimeBase → TimeBase) (s : State) : (s.modTime f).path = s.path := rfl
@[simp] theorem State.modTime_port (f : TimeBase → TimeBase) (s : State) : (s.modTime f).port = s.port := rfl
@[simp] theorem State.modTime_ctl (f : TimeBase → TimeBase) (s : State) : (s.modTime f).ctl = s.ctl := rfl
@[simp] theorem State.modTime_poster (f : TimeBase → TimeBase) (s : State) : (s.modTime f).poster = s.poster := rfl
@[simp] theorem State.modTime_time (f : TimeBase → TimeBase) (s : State) : (s.modTime f).time = f s.time := rfl
@[simp] theorem State.modTime_sources (f : TimeBase → TimeBase) (s : State) : (s.modTime f).sources = s.sources := rfl
@[simp] theorem State.modTime_health (f : TimeBase → TimeBase) (s : State) : (s.modTime f).health = s.health := rfl
@[simp] theorem State.modTime_legs (f : TimeBase → TimeBase) (s : State) : (s.modTime f).legs = s.legs := rfl
@[simp] theorem State.modTime_tariffs (f : TimeBase → TimeBase) (s : State) : (s.modTime f).tariffs = s.tariffs := rfl
@[simp] theorem State.modTime_bookings (f : TimeBase → TimeBase) (s : State) : (s.modTime f).bookings = s.bookings := rfl
@[simp] theorem State.modTime_calendar (f : TimeBase → TimeBase) (s : State) : (s.modTime f).calendar = s.calendar := rfl
@[simp] theorem State.modTime_useCounts (f : TimeBase → TimeBase) (s : State) : (s.modTime f).useCounts = s.useCounts := rfl
@[simp] theorem State.modTime_windows (f : TimeBase → TimeBase) (s : State) : (s.modTime f).windows = s.windows := rfl
@[simp] theorem State.modTime_settlements (f : TimeBase → TimeBase) (s : State) : (s.modTime f).settlements = s.settlements := rfl

@[simp] theorem State.modSource_pending (i : Fin 48) (f : Source → Source) (s : State) : (s.modSource i f).pending = s.pending := rfl
@[simp] theorem State.modSource_resetLine (i : Fin 48) (f : Source → Source) (s : State) : (s.modSource i f).resetLine = s.resetLine := rfl
@[simp] theorem State.modSource_path (i : Fin 48) (f : Source → Source) (s : State) : (s.modSource i f).path = s.path := rfl
@[simp] theorem State.modSource_port (i : Fin 48) (f : Source → Source) (s : State) : (s.modSource i f).port = s.port := rfl
@[simp] theorem State.modSource_ctl (i : Fin 48) (f : Source → Source) (s : State) : (s.modSource i f).ctl = s.ctl := rfl
@[simp] theorem State.modSource_poster (i : Fin 48) (f : Source → Source) (s : State) : (s.modSource i f).poster = s.poster := rfl
@[simp] theorem State.modSource_time (i : Fin 48) (f : Source → Source) (s : State) : (s.modSource i f).time = s.time := rfl
@[simp] theorem State.modSource_sources (i : Fin 48) (f : Source → Source) (s : State) : (s.modSource i f).sources = s.sources.set i (f s.sources[i]) := rfl
@[simp] theorem State.modSource_health (i : Fin 48) (f : Source → Source) (s : State) : (s.modSource i f).health = s.health := rfl
@[simp] theorem State.modSource_legs (i : Fin 48) (f : Source → Source) (s : State) : (s.modSource i f).legs = s.legs := rfl
@[simp] theorem State.modSource_tariffs (i : Fin 48) (f : Source → Source) (s : State) : (s.modSource i f).tariffs = s.tariffs := rfl
@[simp] theorem State.modSource_bookings (i : Fin 48) (f : Source → Source) (s : State) : (s.modSource i f).bookings = s.bookings := rfl
@[simp] theorem State.modSource_calendar (i : Fin 48) (f : Source → Source) (s : State) : (s.modSource i f).calendar = s.calendar := rfl
@[simp] theorem State.modSource_useCounts (i : Fin 48) (f : Source → Source) (s : State) : (s.modSource i f).useCounts = s.useCounts := rfl
@[simp] theorem State.modSource_windows (i : Fin 48) (f : Source → Source) (s : State) : (s.modSource i f).windows = s.windows := rfl
@[simp] theorem State.modSource_settlements (i : Fin 48) (f : Source → Source) (s : State) : (s.modSource i f).settlements = s.settlements := rfl
@[simp] theorem State.modSource_now (i : Fin 48) (f : Source → Source) (s : State) : (s.modSource i f).now = s.now := rfl

@[simp] theorem State.putHealth_pending (i : Fin 48) (h : Health) (s : State) : (s.putHealth i h).pending = s.pending := rfl
@[simp] theorem State.putHealth_resetLine (i : Fin 48) (h : Health) (s : State) : (s.putHealth i h).resetLine = s.resetLine := rfl
@[simp] theorem State.putHealth_path (i : Fin 48) (h : Health) (s : State) : (s.putHealth i h).path = s.path := rfl
@[simp] theorem State.putHealth_port (i : Fin 48) (h : Health) (s : State) : (s.putHealth i h).port = s.port := rfl
@[simp] theorem State.putHealth_ctl (i : Fin 48) (h : Health) (s : State) : (s.putHealth i h).ctl = s.ctl := rfl
@[simp] theorem State.putHealth_poster (i : Fin 48) (h : Health) (s : State) : (s.putHealth i h).poster = s.poster := rfl
@[simp] theorem State.putHealth_time (i : Fin 48) (h : Health) (s : State) : (s.putHealth i h).time = s.time := rfl
@[simp] theorem State.putHealth_sources (i : Fin 48) (h : Health) (s : State) : (s.putHealth i h).sources = s.sources := rfl
@[simp] theorem State.putHealth_health (i : Fin 48) (h : Health) (s : State) : (s.putHealth i h).health = s.health.set i h := rfl
@[simp] theorem State.putHealth_legs (i : Fin 48) (h : Health) (s : State) : (s.putHealth i h).legs = s.legs := rfl
@[simp] theorem State.putHealth_tariffs (i : Fin 48) (h : Health) (s : State) : (s.putHealth i h).tariffs = s.tariffs := rfl
@[simp] theorem State.putHealth_bookings (i : Fin 48) (h : Health) (s : State) : (s.putHealth i h).bookings = s.bookings := rfl
@[simp] theorem State.putHealth_calendar (i : Fin 48) (h : Health) (s : State) : (s.putHealth i h).calendar = s.calendar := rfl
@[simp] theorem State.putHealth_useCounts (i : Fin 48) (h : Health) (s : State) : (s.putHealth i h).useCounts = s.useCounts := rfl
@[simp] theorem State.putHealth_windows (i : Fin 48) (h : Health) (s : State) : (s.putHealth i h).windows = s.windows := rfl
@[simp] theorem State.putHealth_settlements (i : Fin 48) (h : Health) (s : State) : (s.putHealth i h).settlements = s.settlements := rfl
@[simp] theorem State.putHealth_now (i : Fin 48) (h : Health) (s : State) : (s.putHealth i h).now = s.now := rfl

@[simp] theorem State.putLeg_pending (i : Fin 256) (l : Option Leg) (s : State) : (s.putLeg i l).pending = s.pending := rfl
@[simp] theorem State.putLeg_resetLine (i : Fin 256) (l : Option Leg) (s : State) : (s.putLeg i l).resetLine = s.resetLine := rfl
@[simp] theorem State.putLeg_path (i : Fin 256) (l : Option Leg) (s : State) : (s.putLeg i l).path = s.path := rfl
@[simp] theorem State.putLeg_port (i : Fin 256) (l : Option Leg) (s : State) : (s.putLeg i l).port = s.port := rfl
@[simp] theorem State.putLeg_ctl (i : Fin 256) (l : Option Leg) (s : State) : (s.putLeg i l).ctl = s.ctl := rfl
@[simp] theorem State.putLeg_poster (i : Fin 256) (l : Option Leg) (s : State) : (s.putLeg i l).poster = s.poster := rfl
@[simp] theorem State.putLeg_time (i : Fin 256) (l : Option Leg) (s : State) : (s.putLeg i l).time = s.time := rfl
@[simp] theorem State.putLeg_sources (i : Fin 256) (l : Option Leg) (s : State) : (s.putLeg i l).sources = s.sources := rfl
@[simp] theorem State.putLeg_health (i : Fin 256) (l : Option Leg) (s : State) : (s.putLeg i l).health = s.health := rfl
@[simp] theorem State.putLeg_legs (i : Fin 256) (l : Option Leg) (s : State) : (s.putLeg i l).legs = s.legs.set i l := rfl
@[simp] theorem State.putLeg_tariffs (i : Fin 256) (l : Option Leg) (s : State) : (s.putLeg i l).tariffs = s.tariffs := rfl
@[simp] theorem State.putLeg_bookings (i : Fin 256) (l : Option Leg) (s : State) : (s.putLeg i l).bookings = s.bookings := rfl
@[simp] theorem State.putLeg_calendar (i : Fin 256) (l : Option Leg) (s : State) : (s.putLeg i l).calendar = s.calendar := rfl
@[simp] theorem State.putLeg_useCounts (i : Fin 256) (l : Option Leg) (s : State) : (s.putLeg i l).useCounts = s.useCounts := rfl
@[simp] theorem State.putLeg_windows (i : Fin 256) (l : Option Leg) (s : State) : (s.putLeg i l).windows = s.windows := rfl
@[simp] theorem State.putLeg_settlements (i : Fin 256) (l : Option Leg) (s : State) : (s.putLeg i l).settlements = s.settlements := rfl
@[simp] theorem State.putLeg_now (i : Fin 256) (l : Option Leg) (s : State) : (s.putLeg i l).now = s.now := rfl

@[simp] theorem State.modBooking_pending (i : Fin 256) (f : Booking → Booking) (s : State) : (s.modBooking i f).pending = s.pending := rfl
@[simp] theorem State.modBooking_resetLine (i : Fin 256) (f : Booking → Booking) (s : State) : (s.modBooking i f).resetLine = s.resetLine := rfl
@[simp] theorem State.modBooking_path (i : Fin 256) (f : Booking → Booking) (s : State) : (s.modBooking i f).path = s.path := rfl
@[simp] theorem State.modBooking_port (i : Fin 256) (f : Booking → Booking) (s : State) : (s.modBooking i f).port = s.port := rfl
@[simp] theorem State.modBooking_ctl (i : Fin 256) (f : Booking → Booking) (s : State) : (s.modBooking i f).ctl = s.ctl := rfl
@[simp] theorem State.modBooking_poster (i : Fin 256) (f : Booking → Booking) (s : State) : (s.modBooking i f).poster = s.poster := rfl
@[simp] theorem State.modBooking_time (i : Fin 256) (f : Booking → Booking) (s : State) : (s.modBooking i f).time = s.time := rfl
@[simp] theorem State.modBooking_sources (i : Fin 256) (f : Booking → Booking) (s : State) : (s.modBooking i f).sources = s.sources := rfl
@[simp] theorem State.modBooking_health (i : Fin 256) (f : Booking → Booking) (s : State) : (s.modBooking i f).health = s.health := rfl
@[simp] theorem State.modBooking_legs (i : Fin 256) (f : Booking → Booking) (s : State) : (s.modBooking i f).legs = s.legs := rfl
@[simp] theorem State.modBooking_tariffs (i : Fin 256) (f : Booking → Booking) (s : State) : (s.modBooking i f).tariffs = s.tariffs := rfl
@[simp] theorem State.modBooking_bookings (i : Fin 256) (f : Booking → Booking) (s : State) : (s.modBooking i f).bookings = s.bookings.set i (f s.bookings[i]) := rfl
@[simp] theorem State.modBooking_calendar (i : Fin 256) (f : Booking → Booking) (s : State) : (s.modBooking i f).calendar = s.calendar := rfl
@[simp] theorem State.modBooking_useCounts (i : Fin 256) (f : Booking → Booking) (s : State) : (s.modBooking i f).useCounts = s.useCounts := rfl
@[simp] theorem State.modBooking_windows (i : Fin 256) (f : Booking → Booking) (s : State) : (s.modBooking i f).windows = s.windows := rfl
@[simp] theorem State.modBooking_settlements (i : Fin 256) (f : Booking → Booking) (s : State) : (s.modBooking i f).settlements = s.settlements := rfl
@[simp] theorem State.modBooking_now (i : Fin 256) (f : Booking → Booking) (s : State) : (s.modBooking i f).now = s.now := rfl

@[simp] theorem State.modMeter_pending (i : Fin 256) (f : Meter → Meter) (s : State) : (s.modMeter i f).pending = s.pending := rfl
@[simp] theorem State.modMeter_resetLine (i : Fin 256) (f : Meter → Meter) (s : State) : (s.modMeter i f).resetLine = s.resetLine := rfl
@[simp] theorem State.modMeter_path (i : Fin 256) (f : Meter → Meter) (s : State) : (s.modMeter i f).path = s.path := rfl
@[simp] theorem State.modMeter_port (i : Fin 256) (f : Meter → Meter) (s : State) : (s.modMeter i f).port = s.port := rfl
@[simp] theorem State.modMeter_ctl (i : Fin 256) (f : Meter → Meter) (s : State) : (s.modMeter i f).ctl = s.ctl := rfl
@[simp] theorem State.modMeter_poster (i : Fin 256) (f : Meter → Meter) (s : State) : (s.modMeter i f).poster = s.poster := rfl
@[simp] theorem State.modMeter_time (i : Fin 256) (f : Meter → Meter) (s : State) : (s.modMeter i f).time = s.time := rfl
@[simp] theorem State.modMeter_sources (i : Fin 256) (f : Meter → Meter) (s : State) : (s.modMeter i f).sources = s.sources := rfl
@[simp] theorem State.modMeter_health (i : Fin 256) (f : Meter → Meter) (s : State) : (s.modMeter i f).health = s.health := rfl
@[simp] theorem State.modMeter_legs (i : Fin 256) (f : Meter → Meter) (s : State) : (s.modMeter i f).legs = s.legs := rfl
@[simp] theorem State.modMeter_tariffs (i : Fin 256) (f : Meter → Meter) (s : State) : (s.modMeter i f).tariffs = s.tariffs := rfl
@[simp] theorem State.modMeter_bookings (i : Fin 256) (f : Meter → Meter) (s : State) : (s.modMeter i f).bookings = s.bookings.set i { s.bookings[i] with meter := f s.bookings[i].meter } := rfl
@[simp] theorem State.modMeter_calendar (i : Fin 256) (f : Meter → Meter) (s : State) : (s.modMeter i f).calendar = s.calendar := rfl
@[simp] theorem State.modMeter_useCounts (i : Fin 256) (f : Meter → Meter) (s : State) : (s.modMeter i f).useCounts = s.useCounts := rfl
@[simp] theorem State.modMeter_windows (i : Fin 256) (f : Meter → Meter) (s : State) : (s.modMeter i f).windows = s.windows := rfl
@[simp] theorem State.modMeter_settlements (i : Fin 256) (f : Meter → Meter) (s : State) : (s.modMeter i f).settlements = s.settlements := rfl
@[simp] theorem State.modMeter_now (i : Fin 256) (f : Meter → Meter) (s : State) : (s.modMeter i f).now = s.now := rfl

@[simp] theorem State.putWindow_pending (w : Fin 32) (x : Window) (s : State) : (s.putWindow w x).pending = s.pending := rfl
@[simp] theorem State.putWindow_resetLine (w : Fin 32) (x : Window) (s : State) : (s.putWindow w x).resetLine = s.resetLine := rfl
@[simp] theorem State.putWindow_path (w : Fin 32) (x : Window) (s : State) : (s.putWindow w x).path = s.path := rfl
@[simp] theorem State.putWindow_port (w : Fin 32) (x : Window) (s : State) : (s.putWindow w x).port = s.port := rfl
@[simp] theorem State.putWindow_ctl (w : Fin 32) (x : Window) (s : State) : (s.putWindow w x).ctl = s.ctl := rfl
@[simp] theorem State.putWindow_poster (w : Fin 32) (x : Window) (s : State) : (s.putWindow w x).poster = s.poster := rfl
@[simp] theorem State.putWindow_time (w : Fin 32) (x : Window) (s : State) : (s.putWindow w x).time = s.time := rfl
@[simp] theorem State.putWindow_sources (w : Fin 32) (x : Window) (s : State) : (s.putWindow w x).sources = s.sources := rfl
@[simp] theorem State.putWindow_health (w : Fin 32) (x : Window) (s : State) : (s.putWindow w x).health = s.health := rfl
@[simp] theorem State.putWindow_legs (w : Fin 32) (x : Window) (s : State) : (s.putWindow w x).legs = s.legs := rfl
@[simp] theorem State.putWindow_tariffs (w : Fin 32) (x : Window) (s : State) : (s.putWindow w x).tariffs = s.tariffs := rfl
@[simp] theorem State.putWindow_bookings (w : Fin 32) (x : Window) (s : State) : (s.putWindow w x).bookings = s.bookings := rfl
@[simp] theorem State.putWindow_calendar (w : Fin 32) (x : Window) (s : State) : (s.putWindow w x).calendar = s.calendar := rfl
@[simp] theorem State.putWindow_useCounts (w : Fin 32) (x : Window) (s : State) : (s.putWindow w x).useCounts = s.useCounts := rfl
@[simp] theorem State.putWindow_windows (w : Fin 32) (x : Window) (s : State) : (s.putWindow w x).windows = s.windows.set w x := rfl
@[simp] theorem State.putWindow_settlements (w : Fin 32) (x : Window) (s : State) : (s.putWindow w x).settlements = s.settlements := rfl
@[simp] theorem State.putWindow_now (w : Fin 32) (x : Window) (s : State) : (s.putWindow w x).now = s.now := rfl

@[simp] theorem State.answer_pending (id : Fin 16) (tag : Nat) (resp : Resp) (s : State) : (s.answer id tag resp).pending = s.pending := rfl
@[simp] theorem State.answer_resetLine (id : Fin 16) (tag : Nat) (resp : Resp) (s : State) : (s.answer id tag resp).resetLine = s.resetLine := rfl
@[simp] theorem State.answer_path (id : Fin 16) (tag : Nat) (resp : Resp) (s : State) : (s.answer id tag resp).path = s.path := rfl
@[simp] theorem State.answer_port (id : Fin 16) (tag : Nat) (resp : Resp) (s : State) : (s.answer id tag resp).port = s.port.answer id tag resp := rfl
@[simp] theorem State.answer_ctl (id : Fin 16) (tag : Nat) (resp : Resp) (s : State) : (s.answer id tag resp).ctl = s.ctl := rfl
@[simp] theorem State.answer_poster (id : Fin 16) (tag : Nat) (resp : Resp) (s : State) : (s.answer id tag resp).poster = s.poster := rfl
@[simp] theorem State.answer_time (id : Fin 16) (tag : Nat) (resp : Resp) (s : State) : (s.answer id tag resp).time = s.time := rfl
@[simp] theorem State.answer_sources (id : Fin 16) (tag : Nat) (resp : Resp) (s : State) : (s.answer id tag resp).sources = s.sources := rfl
@[simp] theorem State.answer_health (id : Fin 16) (tag : Nat) (resp : Resp) (s : State) : (s.answer id tag resp).health = s.health := rfl
@[simp] theorem State.answer_legs (id : Fin 16) (tag : Nat) (resp : Resp) (s : State) : (s.answer id tag resp).legs = s.legs := rfl
@[simp] theorem State.answer_tariffs (id : Fin 16) (tag : Nat) (resp : Resp) (s : State) : (s.answer id tag resp).tariffs = s.tariffs := rfl
@[simp] theorem State.answer_bookings (id : Fin 16) (tag : Nat) (resp : Resp) (s : State) : (s.answer id tag resp).bookings = s.bookings := rfl
@[simp] theorem State.answer_calendar (id : Fin 16) (tag : Nat) (resp : Resp) (s : State) : (s.answer id tag resp).calendar = s.calendar := rfl
@[simp] theorem State.answer_useCounts (id : Fin 16) (tag : Nat) (resp : Resp) (s : State) : (s.answer id tag resp).useCounts = s.useCounts := rfl
@[simp] theorem State.answer_windows (id : Fin 16) (tag : Nat) (resp : Resp) (s : State) : (s.answer id tag resp).windows = s.windows := rfl
@[simp] theorem State.answer_settlements (id : Fin 16) (tag : Nat) (resp : Resp) (s : State) : (s.answer id tag resp).settlements = s.settlements := rfl
@[simp] theorem State.answer_now (id : Fin 16) (tag : Nat) (resp : Resp) (s : State) : (s.answer id tag resp).now = s.now := rfl

@[simp] theorem State.forward_pending (f : Forwarded) (s : State) : (s.forward f).pending = s.pending := rfl
@[simp] theorem State.forward_resetLine (f : Forwarded) (s : State) : (s.forward f).resetLine = s.resetLine := rfl
@[simp] theorem State.forward_path (f : Forwarded) (s : State) : (s.forward f).path = s.path := rfl
@[simp] theorem State.forward_port (f : Forwarded) (s : State) : (s.forward f).port = s.port.forward f := rfl
@[simp] theorem State.forward_ctl (f : Forwarded) (s : State) : (s.forward f).ctl = s.ctl := rfl
@[simp] theorem State.forward_poster (f : Forwarded) (s : State) : (s.forward f).poster = s.poster := rfl
@[simp] theorem State.forward_time (f : Forwarded) (s : State) : (s.forward f).time = s.time := rfl
@[simp] theorem State.forward_sources (f : Forwarded) (s : State) : (s.forward f).sources = s.sources := rfl
@[simp] theorem State.forward_health (f : Forwarded) (s : State) : (s.forward f).health = s.health := rfl
@[simp] theorem State.forward_legs (f : Forwarded) (s : State) : (s.forward f).legs = s.legs := rfl
@[simp] theorem State.forward_tariffs (f : Forwarded) (s : State) : (s.forward f).tariffs = s.tariffs := rfl
@[simp] theorem State.forward_bookings (f : Forwarded) (s : State) : (s.forward f).bookings = s.bookings := rfl
@[simp] theorem State.forward_calendar (f : Forwarded) (s : State) : (s.forward f).calendar = s.calendar := rfl
@[simp] theorem State.forward_useCounts (f : Forwarded) (s : State) : (s.forward f).useCounts = s.useCounts := rfl
@[simp] theorem State.forward_windows (f : Forwarded) (s : State) : (s.forward f).windows = s.windows := rfl
@[simp] theorem State.forward_settlements (f : Forwarded) (s : State) : (s.forward f).settlements = s.settlements := rfl
@[simp] theorem State.forward_now (f : Forwarded) (s : State) : (s.forward f).now = s.now := rfl

@[simp] theorem State.place_pending (x : OwnTxn) (s : State) : (s.place x).pending = s.pending := rfl
@[simp] theorem State.place_resetLine (x : OwnTxn) (s : State) : (s.place x).resetLine = s.resetLine := rfl
@[simp] theorem State.place_path (x : OwnTxn) (s : State) : (s.place x).path = s.path := rfl
@[simp] theorem State.place_port (x : OwnTxn) (s : State) : (s.place x).port = s.port.place x := rfl
@[simp] theorem State.place_ctl (x : OwnTxn) (s : State) : (s.place x).ctl = s.ctl := rfl
@[simp] theorem State.place_poster (x : OwnTxn) (s : State) : (s.place x).poster = s.poster := rfl
@[simp] theorem State.place_time (x : OwnTxn) (s : State) : (s.place x).time = s.time := rfl
@[simp] theorem State.place_sources (x : OwnTxn) (s : State) : (s.place x).sources = s.sources := rfl
@[simp] theorem State.place_health (x : OwnTxn) (s : State) : (s.place x).health = s.health := rfl
@[simp] theorem State.place_legs (x : OwnTxn) (s : State) : (s.place x).legs = s.legs := rfl
@[simp] theorem State.place_tariffs (x : OwnTxn) (s : State) : (s.place x).tariffs = s.tariffs := rfl
@[simp] theorem State.place_bookings (x : OwnTxn) (s : State) : (s.place x).bookings = s.bookings := rfl
@[simp] theorem State.place_calendar (x : OwnTxn) (s : State) : (s.place x).calendar = s.calendar := rfl
@[simp] theorem State.place_useCounts (x : OwnTxn) (s : State) : (s.place x).useCounts = s.useCounts := rfl
@[simp] theorem State.place_windows (x : OwnTxn) (s : State) : (s.place x).windows = s.windows := rfl
@[simp] theorem State.place_settlements (x : OwnTxn) (s : State) : (s.place x).settlements = s.settlements := rfl
@[simp] theorem State.place_now (x : OwnTxn) (s : State) : (s.place x).now = s.now := rfl

@[simp] theorem State.dropResponse_pending (mtag : Nat) (s : State) : (s.dropResponse mtag).pending = s.pending := rfl
@[simp] theorem State.dropResponse_resetLine (mtag : Nat) (s : State) : (s.dropResponse mtag).resetLine = s.resetLine := rfl
@[simp] theorem State.dropResponse_path (mtag : Nat) (s : State) : (s.dropResponse mtag).path = s.path := rfl
@[simp] theorem State.dropResponse_port (mtag : Nat) (s : State) : (s.dropResponse mtag).port = s.port.drop mtag := rfl
@[simp] theorem State.dropResponse_ctl (mtag : Nat) (s : State) : (s.dropResponse mtag).ctl = s.ctl := rfl
@[simp] theorem State.dropResponse_poster (mtag : Nat) (s : State) : (s.dropResponse mtag).poster = s.poster := rfl
@[simp] theorem State.dropResponse_time (mtag : Nat) (s : State) : (s.dropResponse mtag).time = s.time := rfl
@[simp] theorem State.dropResponse_sources (mtag : Nat) (s : State) : (s.dropResponse mtag).sources = s.sources := rfl
@[simp] theorem State.dropResponse_health (mtag : Nat) (s : State) : (s.dropResponse mtag).health = s.health := rfl
@[simp] theorem State.dropResponse_legs (mtag : Nat) (s : State) : (s.dropResponse mtag).legs = s.legs := rfl
@[simp] theorem State.dropResponse_tariffs (mtag : Nat) (s : State) : (s.dropResponse mtag).tariffs = s.tariffs := rfl
@[simp] theorem State.dropResponse_bookings (mtag : Nat) (s : State) : (s.dropResponse mtag).bookings = s.bookings := rfl
@[simp] theorem State.dropResponse_calendar (mtag : Nat) (s : State) : (s.dropResponse mtag).calendar = s.calendar := rfl
@[simp] theorem State.dropResponse_useCounts (mtag : Nat) (s : State) : (s.dropResponse mtag).useCounts = s.useCounts := rfl
@[simp] theorem State.dropResponse_windows (mtag : Nat) (s : State) : (s.dropResponse mtag).windows = s.windows := rfl
@[simp] theorem State.dropResponse_settlements (mtag : Nat) (s : State) : (s.dropResponse mtag).settlements = s.settlements := rfl
@[simp] theorem State.dropResponse_now (mtag : Nat) (s : State) : (s.dropResponse mtag).now = s.now := rfl

@[simp] theorem State.offer_pending (body : ReportBody) (s : State) : (s.offer body).pending = s.pending := rfl
@[simp] theorem State.offer_resetLine (body : ReportBody) (s : State) : (s.offer body).resetLine = s.resetLine := rfl
@[simp] theorem State.offer_path (body : ReportBody) (s : State) : (s.offer body).path = s.path := rfl
@[simp] theorem State.offer_port (body : ReportBody) (s : State) : (s.offer body).port = s.port := rfl
@[simp] theorem State.offer_ctl (body : ReportBody) (s : State) : (s.offer body).ctl = s.ctl := rfl
@[simp] theorem State.offer_poster (body : ReportBody) (s : State) : (s.offer body).poster = s.poster.offer s.now body := rfl
@[simp] theorem State.offer_time (body : ReportBody) (s : State) : (s.offer body).time = s.time := rfl
@[simp] theorem State.offer_sources (body : ReportBody) (s : State) : (s.offer body).sources = s.sources := rfl
@[simp] theorem State.offer_health (body : ReportBody) (s : State) : (s.offer body).health = s.health := rfl
@[simp] theorem State.offer_legs (body : ReportBody) (s : State) : (s.offer body).legs = s.legs := rfl
@[simp] theorem State.offer_tariffs (body : ReportBody) (s : State) : (s.offer body).tariffs = s.tariffs := rfl
@[simp] theorem State.offer_bookings (body : ReportBody) (s : State) : (s.offer body).bookings = s.bookings := rfl
@[simp] theorem State.offer_calendar (body : ReportBody) (s : State) : (s.offer body).calendar = s.calendar := rfl
@[simp] theorem State.offer_useCounts (body : ReportBody) (s : State) : (s.offer body).useCounts = s.useCounts := rfl
@[simp] theorem State.offer_windows (body : ReportBody) (s : State) : (s.offer body).windows = s.windows := rfl
@[simp] theorem State.offer_settlements (body : ReportBody) (s : State) : (s.offer body).settlements = s.settlements := rfl
@[simp] theorem State.offer_now (body : ReportBody) (s : State) : (s.offer body).now = s.now := rfl

@[simp] theorem State.routeWindows_pending (h : Handle) (ws : List (Fin 32)) (s : State) : (s.routeWindows h ws).pending = s.pending := rfl
@[simp] theorem State.routeWindows_resetLine (h : Handle) (ws : List (Fin 32)) (s : State) : (s.routeWindows h ws).resetLine = s.resetLine := rfl
@[simp] theorem State.routeWindows_path (h : Handle) (ws : List (Fin 32)) (s : State) : (s.routeWindows h ws).path = s.path := rfl
@[simp] theorem State.routeWindows_port (h : Handle) (ws : List (Fin 32)) (s : State) : (s.routeWindows h ws).port = s.port := rfl
@[simp] theorem State.routeWindows_ctl (h : Handle) (ws : List (Fin 32)) (s : State) : (s.routeWindows h ws).ctl = s.ctl := rfl
@[simp] theorem State.routeWindows_poster (h : Handle) (ws : List (Fin 32)) (s : State) : (s.routeWindows h ws).poster = s.poster := rfl
@[simp] theorem State.routeWindows_time (h : Handle) (ws : List (Fin 32)) (s : State) : (s.routeWindows h ws).time = s.time := rfl
@[simp] theorem State.routeWindows_sources (h : Handle) (ws : List (Fin 32)) (s : State) : (s.routeWindows h ws).sources = s.sources := rfl
@[simp] theorem State.routeWindows_health (h : Handle) (ws : List (Fin 32)) (s : State) : (s.routeWindows h ws).health = s.health := rfl
@[simp] theorem State.routeWindows_legs (h : Handle) (ws : List (Fin 32)) (s : State) : (s.routeWindows h ws).legs = s.legs := rfl
@[simp] theorem State.routeWindows_tariffs (h : Handle) (ws : List (Fin 32)) (s : State) : (s.routeWindows h ws).tariffs = s.tariffs := rfl
@[simp] theorem State.routeWindows_bookings (h : Handle) (ws : List (Fin 32)) (s : State) : (s.routeWindows h ws).bookings = s.bookings := rfl
@[simp] theorem State.routeWindows_calendar (h : Handle) (ws : List (Fin 32)) (s : State) : (s.routeWindows h ws).calendar = s.calendar := rfl
@[simp] theorem State.routeWindows_useCounts (h : Handle) (ws : List (Fin 32)) (s : State) : (s.routeWindows h ws).useCounts = s.useCounts := rfl
@[simp] theorem State.routeWindows_windows (h : Handle) (ws : List (Fin 32)) (s : State) : (s.routeWindows h ws).windows = handWindows (some h) true ws s.windows := rfl
@[simp] theorem State.routeWindows_settlements (h : Handle) (ws : List (Fin 32)) (s : State) : (s.routeWindows h ws).settlements = s.settlements := rfl
@[simp] theorem State.routeWindows_now (h : Handle) (ws : List (Fin 32)) (s : State) : (s.routeWindows h ws).now = s.now := rfl

/-! ### Records in the tables, after an update of one of them -/

@[simp] theorem State.modBooking_same (i : Fin 256) (f : Booking → Booking) (s : State) :
    (s.modBooking i f).bookings[i] = f s.bookings[i] := by
  simp

theorem State.modBooking_other {i j : Fin 256} (h : i ≠ j) (f : Booking → Booking) (s : State) :
    (s.modBooking i f).bookings[j] = s.bookings[j] := by
  have : i.val ≠ j.val := fun e => h (Fin.ext e)
  simp [this]

@[simp] theorem State.modSource_same (i : Fin 48) (f : Source → Source) (s : State) :
    (s.modSource i f).sources[i] = f s.sources[i] := by
  simp

theorem State.modSource_other {i j : Fin 48} (h : i ≠ j) (f : Source → Source) (s : State) :
    (s.modSource i f).sources[j] = s.sources[j] := by
  have : i.val ≠ j.val := fun e => h (Fin.ext e)
  simp [this]

@[simp] theorem State.putHealth_same (i : Fin 48) (x : Health) (s : State) :
    (s.putHealth i x).health[i] = x := by
  simp

theorem State.putHealth_other {i j : Fin 48} (h : i ≠ j) (x : Health) (s : State) :
    (s.putHealth i x).health[j] = s.health[j] := by
  have : i.val ≠ j.val := fun e => h (Fin.ext e)
  simp [this]

@[simp] theorem State.putLeg_same (i : Fin 256) (x : Option Leg) (s : State) :
    (s.putLeg i x).legs[i] = x := by
  simp

theorem State.putLeg_other {i j : Fin 256} (h : i ≠ j) (x : Option Leg) (s : State) :
    (s.putLeg i x).legs[j] = s.legs[j] := by
  have : i.val ≠ j.val := fun e => h (Fin.ext e)
  simp [this]

@[simp] theorem State.putWindow_same (i : Fin 32) (x : Window) (s : State) :
    (s.putWindow i x).windows[i] = x := by
  simp

theorem State.putWindow_other {i j : Fin 32} (h : i ≠ j) (x : Window) (s : State) :
    (s.putWindow i x).windows[j] = s.windows[j] := by
  have : i.val ≠ j.val := fun e => h (Fin.ext e)
  simp [this]

end Sys2Proof.Machine
end

