-- ==== Sys2Proof/Laws/Ops.lean ====
section
/-! SUPPORT. What the shared operations can do, said once: an operation of the tables leaves the ports, the
control monitor, the path decoder and the time base, adds reports to the hold queue within its size, and
keeps the law of the waiting settlements. -/

namespace Sys2Proof.Machine

/-- `t` follows from `s` by operations on the tables and offers to the hold queue alone. -/
structure TableStep (s t : State) : Prop where
  pending : t.pending = s.pending
  resetLine : t.resetLine = s.resetLine
  path : t.path = s.path
  port : t.port = s.port
  ctl : t.ctl = s.ctl
  time : t.time = s.time
  tariffs : t.tariffs = s.tariffs
  consumer : t.poster.consumer = s.poster.consumer
  head : t.poster.head = s.poster.head
  published : t.poster.published = s.poster.published
  publishedTag : t.poster.publishedTag = s.poster.publishedTag
  posting : t.poster.posting = s.poster.posting
  reserved : t.poster.reserved = s.poster.reserved
  haltPlaced : t.poster.haltPlaced = s.poster.haltPlaced
  hold : s.poster.hold <+: t.poster.hold
  used : s.poster.used ≤ 16 → t.poster.used ≤ 16
  lost : s.poster.lost ≤ 65535 → t.poster.lost ≤ 65535
  waits : s.settlementsWait → t.settlementsWait

namespace TableStep

theorem refl (s : State) : TableStep s s := by
  constructor <;> first | rfl | exact id

theorem trans {s t u : State} (a : TableStep s t) (b : TableStep t u) : TableStep s u where
  pending := b.pending.trans a.pending
  resetLine := b.resetLine.trans a.resetLine
  path := b.path.trans a.path
  port := b.port.trans a.port
  ctl := b.ctl.trans a.ctl
  time := b.time.trans a.time
  tariffs := b.tariffs.trans a.tariffs
  consumer := b.consumer.trans a.consumer
  head := b.head.trans a.head
  published := b.published.trans a.published
  publishedTag := b.publishedTag.trans a.publishedTag
  posting := b.posting.trans a.posting
  reserved := b.reserved.trans a.reserved
  haltPlaced := b.haltPlaced.trans a.haltPlaced
  hold := a.hold.trans b.hold
  used := b.used ∘ a.used
  lost := b.lost ∘ a.lost
  waits := b.waits ∘ a.waits

theorem foldl {α : Type} (f : State → α → State) (h : ∀ s a, TableStep s (f s a)) (l : List α)
    (s : State) : TableStep s (l.foldl f s) := by
  induction l generalizing s with
  | nil => exact refl s
  | cons a l ih => exact (h s a).trans (ih (f s a))

/-- An update of the tables that leaves the hold queue and the settlement list. -/
theorem ofTables {s t : State} (h1 : t.pending = s.pending) (h2 : t.resetLine = s.resetLine)
    (h3 : t.path = s.path) (h4 : t.port = s.port) (h5 : t.ctl = s.ctl) (h6 : t.time = s.time)
    (h7 : t.tariffs = s.tariffs) (h8 : t.poster = s.poster) (h9 : t.settlements = s.settlements) :
    TableStep s t := by
  refine ⟨h1, h2, h3, h4, h5, h6, h7, ?_, ?_, ?_, ?_, ?_, ?_, ?_, ?_, ?_, ?_, ?_⟩ <;>
    simp [h8, h9, State.settlementsWait]

theorem time_now {s t : State} (h : TableStep s t) : t.now = s.now := by
  simp [State.now, h.time]

end TableStep

theorem TableStep.tablesOnly {s t : State} (h : TableStep s t) : s.tablesOnly t := by
  refine ⟨h.pending, h.resetLine, h.path, h.port, h.ctl, h.time, h.tariffs, h.hold, ?_⟩
  have e1 := h.consumer
  have e2 := h.head
  have e3 := h.published
  have e4 := h.publishedTag
  have e5 := h.posting
  have e6 := h.reserved
  have e7 := h.haltPlaced
  cases hp : t.poster
  simp_all

/-! ### The hold queue -/

/-- A notice joins the queue or is counted lost. -/
theorem Poster.offer_spec (p : Poster) (now : Nat) (body : ReportBody) :
    (p.accepts = true ∧ p.offer now body = { p with hold := p.hold ++ [{ created := now, body }] }) ∨
      (p.accepts = false ∧ p.offer now body = { p with lost := min 65535 (p.lost + 1) }) := by
  cases h : p.accepts <;> simp [Poster.offer, h, Poster.enqueue, Poster.countLost, Config.lostMax]

theorem State.offer_step (body : ReportBody) (s : State) : TableStep s (s.offer body) := by
  rcases Poster.offer_spec s.poster s.now body with ⟨h, e⟩ | ⟨h, e⟩
  · have hf : 5 ≤ s.poster.free := by
      simp only [Poster.accepts, Config.noticeReserve, Bool.and_eq_true] at h
      exact of_decide_eq_true h.1
    constructor <;> simp [e, State.settlementsWait, Poster.used]
    · simp only [Poster.free, Config.holdCapacity] at hf
      omega
    · rintro (w | w)
      · exact Or.inl w
      · exact absurd w (by omega)
  · constructor <;> simp [e, State.settlementsWait, Poster.used, Poster.free]

theorem State.modBooking_step (i : Fin 256) (f : Booking → Booking) (s : State) :
    TableStep s (s.modBooking i f) := by
  apply TableStep.ofTables <;> rfl

theorem State.modMeter_step (i : Fin 256) (f : Meter → Meter) (s : State) :
    TableStep s (s.modMeter i f) := by
  apply TableStep.ofTables <;> rfl

theorem State.putLeg_step (i : Fin 256) (l : Option Leg) (s : State) : TableStep s (s.putLeg i l) := by
  apply TableStep.ofTables <;> rfl

theorem State.putHealth_step (i : Fin 48) (h : Health) (s : State) : TableStep s (s.putHealth i h) := by
  apply TableStep.ofTables <;> rfl

theorem State.modSource_step (i : Fin 48) (f : Source → Source) (s : State) :
    TableStep s (s.modSource i f) := by
  apply TableStep.ofTables <;> rfl

theorem State.putWindow_step (w : Fin 32) (x : Window) (s : State) : TableStep s (s.putWindow w x) := by
  apply TableStep.ofTables <;> rfl

theorem State.routeWindows_step (h : Handle) (ws : List (Fin 32)) (s : State) :
    TableStep s (s.routeWindows h ws) := by
  apply TableStep.ofTables <;> rfl

/-! ### Settlements -/

/-- A settlement adds at most one report to the hold queue and changes nothing else of the poster. -/
theorem Poster.settle_spec (p : Poster) (held : Option Settlement) :
    ∃ l : List Report, l.length ≤ 1 ∧ p.settle held = { p with hold := p.hold ++ l } := by
  cases held with
  | none => exact ⟨[], by simp, by simp [Poster.settle]⟩
  | some x => exact ⟨[_], by simp, rfl⟩

/-- The settlement at the head of the list enters, or nothing changes; the last when the list is empty or
no entry is free. -/
theorem State.settlementEnter_step (s : State) : TableStep s s.settlementEnter := by
  unfold State.settlementEnter
  cases hs : s.settlements with
  | nil => exact TableStep.refl s
  | cons i rest =>
    by_cases hf : 1 ≤ s.poster.free
    · simp only [hf, if_true]
      obtain ⟨l, hl, hp⟩ := s.poster.settle_spec s.bookings[i].held
      simp only [Poster.free, Config.holdCapacity] at hf
      constructor <;> simp only [hp, State.settlementsWait, Poster.used, Poster.free, hs, State.modBooking]
      · exact List.prefix_append _ _
      · simp only [List.length_append]
        omega
      · exact id
      · rintro (h | h)
        · cases h
        · simp only [Config.holdCapacity] at h
          omega
    · simp only [hf, if_false]
      exact TableStep.refl s

theorem State.settlementsEnter_step (n : Nat) (s : State) : TableStep s (s.settlementsEnter n) := by
  induction n generalizing s with
  | zero => exact TableStep.refl s
  | succ n ih => exact s.settlementEnter_step.trans (ih _)

theorem State.drainSettlements_step (s : State) : TableStep s s.drainSettlements :=
  s.settlementsEnter_step _

/-- After one entry either no entry is free, or the list is one shorter. -/
theorem State.settlementEnter_length (s : State) :
    (s.poster.free = 0 ∧ s.settlementEnter = s) ∨
      s.settlementEnter.settlements.length = s.settlements.length - 1 := by
  unfold State.settlementEnter
  cases hs : s.settlements with
  | nil => right; simp [hs]
  | cons i rest =>
    by_cases hf : 1 ≤ s.poster.free
    · right
      simp [hf]
    · left
      simp only [hf, if_false]
      exact ⟨by omega, trivial⟩

theorem State.settlementsEnter_waits (n : Nat) (s : State) (h : s.settlements.length ≤ n) :
    (s.settlementsEnter n).settlementsWait := by
  induction n generalizing s with
  | zero =>
    left
    exact List.eq_nil_of_length_eq_zero (Nat.le_zero.mp h)
  | succ n ih =>
    rcases s.settlementEnter_length with ⟨hf, e⟩ | e
    · exact (State.settlementsEnter_step (n + 1) s).waits (Or.inr hf)
    · exact ih _ (by omega)

/-- Draining leaves an empty list or a full queue, whatever stood before (R35). -/
theorem State.drainSettlements_waits (s : State) : s.drainSettlements.settlementsWait :=
  s.settlementsEnter_waits _ le_rfl

/-! ### Spans, legs, line checks, health -/

theorem State.judge_step (i : Fin 256) (s : State) : TableStep s (s.judge i) := by
  unfold State.judge
  dsimp only
  repeat' split
  all_goals first | exact TableStep.refl s | exact s.modMeter_step _ _

theorem State.switchLeg_step (i : Fin 256) (l : Leg) (a b : LegName) (c : LegCause) (s : State) :
    TableStep s (s.switchLeg i l a b c) :=
  ((s.putLeg_step _ _).trans (State.offer_step _ _)).trans (State.modMeter_step _ _ _)

theorem State.autoRule_step (i : Fin 256) (c : LegCause) (s : State) : TableStep s (s.autoRule i c) := by
  unfold State.autoRule
  dsimp only
  repeat' split
  all_goals first | exact TableStep.refl s | exact s.switchLeg_step _ _ _ _ _

theorem State.revertRule_step (i : Fin 256) (c : LegCause) (s : State) :
    TableStep s (s.revertRule i c) := by
  unfold State.revertRule
  dsimp only
  repeat' split
  all_goals first | exact TableStep.refl s | exact s.switchLeg_step _ _ _ _ _ | exact s.putLeg_step _ _

theorem State.legRules_step (i : Fin 256) (c d : LegCause) (s : State) :
    TableStep s (s.legRules i c d) :=
  (s.autoRule_step i c).trans (State.revertRule_step i d _)

theorem State.endLineCheck_step (i : Fin 256) (t : LineCheckTrigger) (s : State) :
    TableStep s (s.endLineCheck i t) :=
  (s.modBooking_step _ _).trans (State.offer_step _ _)

theorem State.lineCheckTold_step (i : Fin 256) (s : State) : TableStep s (s.lineCheckTold i) := by
  unfold State.lineCheckTold
  split
  · exact s.endLineCheck_step _ _
  · exact TableStep.refl s

theorem State.healthChanged_step (src : Fin 48) (b : HealthState) (c : HealthCause) (s : State) :
    TableStep s (s.healthChanged src b c) := by
  unfold State.healthChanged
  exact (((State.offer_step _ _).trans (TableStep.foldl _ (fun s i => s.lineCheckTold_step i) _ _)).trans
    (TableStep.foldl _ (fun s i => s.legRules_step i _ _) _ _)).trans
    (TableStep.foldl _ (fun s i => s.judge_step i) _ _)

theorem State.setHealth_step (src : Fin 48) (h : Health) (c : HealthCause) (s : State) :
    TableStep s (s.setHealth src h c) := by
  unfold State.setHealth
  dsimp only
  split
  · exact s.putHealth_step _ _
  · exact (s.putHealth_step _ _).trans (State.healthChanged_step _ _ _ _)

/-! ### The life of a booking -/

theorem State.closeBooking_step (i : Fin 256) (r : EndReason) (w : Bool) (s : State) :
    TableStep s (s.closeBooking i r w) := by
  unfold State.closeBooking
  dsimp only
  refine { (State.drainSettlements_step _) with waits := fun _ => State.drainSettlements_waits _ }

theorem State.closeBooking_waits (i : Fin 256) (r : EndReason) (w : Bool) (s : State) :
    (s.closeBooking i r w).settlementsWait := State.drainSettlements_waits _

theorem State.cancelBooking_step (i : Fin 256) (w : Bool) (s : State) :
    TableStep s (s.cancelBooking i w) :=
  (s.modBooking_step _ _).trans (State.closeBooking_step _ _ _ _)

theorem State.claim_step (i : Fin 256) (s : State) : TableStep s (s.claim i) := by
  apply TableStep.ofTables <;> rfl

theorem State.beginLineCheck_step (i : Fin 256) (s : State) : TableStep s (s.beginLineCheck i) := by
  unfold State.beginLineCheck
  split
  · exact s.endLineCheck_step _ _
  · exact s.modBooking_step _ _

theorem State.enterPreroll_step (i : Fin 256) (s : State) : TableStep s (s.enterPreroll i) :=
  ((s.claim_step i).trans (State.modBooking_step _ _ _)).trans (State.beginLineCheck_step _ _)

theorem State.clearWindows_step (i : Fin 256) (s : State) : TableStep s (s.clearWindows i) :=
  TableStep.foldl _ (fun s a => s.closeBooking_step a _ _) _ _

theorem State.setInitialLeg_step (i : Fin 256) (s : State) : TableStep s (s.setInitialLeg i) := by
  unfold State.setInitialLeg
  split
  · exact s.putLeg_step _ _
  · exact TableStep.refl s

theorem State.enterOnAir_step (i : Fin 256) (fresh : Bool) (n : Nat) (s : State) :
    TableStep s (s.enterOnAir i fresh n) := by
  unfold State.enterOnAir
  dsimp only
  have h1 : TableStep s (if fresh then s.claim i else s) := by
    split
    · exact s.claim_step i
    · exact TableStep.refl s
  have h2 : ∀ u : State,
      TableStep u (if u.bookings[i].lineCheck = .done then u else u.endLineCheck i .start) := by
    intro u
    split
    · exact TableStep.refl u
    · exact u.endLineCheck_step _ _
  exact (((((((h1.trans (h2 _)).trans (State.modBooking_step _ _ _)).trans
    (State.routeWindows_step _ _ _)).trans (State.setInitialLeg_step _ _)).trans
    (State.judge_step _ _)).trans (State.offer_step _ _)).trans (State.modBooking_step _ _ _))

theorem State.startBooking_step (i : Fin 256) (fresh : Bool) (s : State) :
    TableStep s (s.startBooking i fresh) :=
  (s.clearWindows_step i).trans (State.enterOnAir_step _ _ _ _)

end Sys2Proof.Machine
end

