-- ==== Sys2Proof/Laws/Health.lean ====
section
/-! SUPPORT. What a health change, a leg change, a line check and a deliverability judgement can touch: leg
records, meters, line checks and the hold queue; never the life of a booking, a window, a source record or
the settlement list. -/

namespace Sys2Proof.Machine

/-- `t` follows from `s` by leg rules, line checks, judgements and notices. -/
structure QuietStep (s t : State) : Prop extends TableStep s t where
  sources : t.sources = s.sources
  health : t.health = s.health
  calendar : t.calendar = s.calendar
  useCounts : t.useCounts = s.useCounts
  windows : t.windows = s.windows
  settlements : t.settlements = s.settlements
  bookings : s.bookingsQuiet t

theorem State.bookingsQuiet_of_eq {s t : State} (h : t.bookings = s.bookings) : State.bookingsQuiet s t := by
  intro i
  rw [h]

theorem State.bookingsQuiet_trans {s t u : State} (a : State.bookingsQuiet s t) (b : State.bookingsQuiet t u) :
    State.bookingsQuiet s u := by
  intro i
  rw [b i, a i]

theorem State.bookingsQuiet_modBooking {s : State} {i : Fin 256} {f : Booking → Booking}
    (h : ∀ b : Booking, f b = { b with meter := (f b).meter, lineCheck := (f b).lineCheck, lineExp := (f b).lineExp }) :
    State.bookingsQuiet s (s.modBooking i f) := by
  intro j
  by_cases e : i = j
  · subst e
    rw [State.modBooking_same]
    exact h _
  · rw [State.modBooking_other e]

namespace QuietStep

theorem refl (s : State) : QuietStep s s :=
  ⟨TableStep.refl s, rfl, rfl, rfl, rfl, rfl, rfl, State.bookingsQuiet_of_eq rfl⟩

theorem trans {s t u : State} (a : QuietStep s t) (b : QuietStep t u) : QuietStep s u :=
  ⟨a.toTableStep.trans b.toTableStep, b.sources.trans a.sources, b.health.trans a.health,
    b.calendar.trans a.calendar, b.useCounts.trans a.useCounts, b.windows.trans a.windows,
    b.settlements.trans a.settlements, State.bookingsQuiet_trans a.bookings b.bookings⟩

theorem foldl {α : Type} (f : State → α → State) (h : ∀ s a, QuietStep s (f s a)) (l : List α)
    (s : State) : QuietStep s (l.foldl f s) := by
  induction l generalizing s with
  | nil => exact refl s
  | cons a l ih => exact (h s a).trans (ih (f s a))

end QuietStep

theorem State.offer_quiet (body : ReportBody) (s : State) : QuietStep s (s.offer body) :=
  ⟨s.offer_step body, rfl, rfl, rfl, rfl, rfl, rfl, State.bookingsQuiet_of_eq rfl⟩

theorem State.putLeg_quiet (i : Fin 256) (l : Option Leg) (s : State) : QuietStep s (s.putLeg i l) :=
  ⟨s.putLeg_step i l, rfl, rfl, rfl, rfl, rfl, rfl, State.bookingsQuiet_of_eq rfl⟩

theorem State.modMeter_quiet (i : Fin 256) (f : Meter → Meter) (s : State) :
    QuietStep s (s.modMeter i f) :=
  ⟨s.modMeter_step i f, rfl, rfl, rfl, rfl, rfl, rfl, State.bookingsQuiet_modBooking fun _ => rfl⟩

theorem State.switchLeg_quiet (i : Fin 256) (l : Leg) (a b : LegName) (c : LegCause) (s : State) :
    QuietStep s (s.switchLeg i l a b c) :=
  ((s.putLeg_quiet _ _).trans (State.offer_quiet _ _)).trans (State.modMeter_quiet _ _ _)

theorem State.judge_quiet (i : Fin 256) (s : State) : QuietStep s (s.judge i) := by
  unfold State.judge
  dsimp only
  repeat' split
  all_goals first | exact QuietStep.refl s | exact s.modMeter_quiet _ _

theorem State.autoRule_quiet (i : Fin 256) (c : LegCause) (s : State) : QuietStep s (s.autoRule i c) := by
  unfold State.autoRule
  dsimp only
  repeat' split
  all_goals first | exact QuietStep.refl s | exact s.switchLeg_quiet _ _ _ _ _

theorem State.revertRule_quiet (i : Fin 256) (c : LegCause) (s : State) :
    QuietStep s (s.revertRule i c) := by
  unfold State.revertRule
  dsimp only
  repeat' split
  all_goals first | exact QuietStep.refl s | exact s.switchLeg_quiet _ _ _ _ _ | exact s.putLeg_quiet _ _

theorem State.legRules_quiet (i : Fin 256) (c d : LegCause) (s : State) :
    QuietStep s (s.legRules i c d) :=
  (s.autoRule_quiet i c).trans (State.revertRule_quiet i d _)

theorem State.endLineCheck_quiet (i : Fin 256) (t : LineCheckTrigger) (s : State) :
    QuietStep s (s.endLineCheck i t) :=
  QuietStep.trans
    ⟨s.modBooking_step _ _, rfl, rfl, rfl, rfl, rfl, rfl, State.bookingsQuiet_modBooking fun _ => rfl⟩
    (State.offer_quiet _ _)

theorem State.lineCheckTold_quiet (i : Fin 256) (s : State) : QuietStep s (s.lineCheckTold i) := by
  unfold State.lineCheckTold
  split
  · exact s.endLineCheck_quiet _ _
  · exact QuietStep.refl s

theorem State.beginLineCheck_quiet (i : Fin 256) (s : State) : QuietStep s (s.beginLineCheck i) := by
  unfold State.beginLineCheck
  split
  · exact s.endLineCheck_quiet _ _
  · exact ⟨s.modBooking_step _ _, rfl, rfl, rfl, rfl, rfl, rfl, State.bookingsQuiet_modBooking fun _ => rfl⟩

theorem State.setInitialLeg_quiet (i : Fin 256) (s : State) : QuietStep s (s.setInitialLeg i) := by
  unfold State.setInitialLeg
  split
  · exact s.putLeg_quiet _ _
  · exact QuietStep.refl s

/-- Steps 2 to 5 of R88 leave every health record, source record, window and booking state. -/
theorem State.healthChanged_quiet (src : Fin 48) (b : HealthState) (c : HealthCause) (s : State) :
    QuietStep s (s.healthChanged src b c) := by
  unfold State.healthChanged
  exact (((State.offer_quiet _ _).trans (QuietStep.foldl _ (fun s i => s.lineCheckTold_quiet i) _ _)).trans
    (QuietStep.foldl _ (fun s i => s.legRules_quiet i _ _) _ _)).trans
    (QuietStep.foldl _ (fun s i => s.judge_quiet i) _ _)

/-- A health change writes its record and is otherwise quiet. -/
theorem State.setHealth_quiet (src : Fin 48) (h : Health) (c : HealthCause) (s : State) :
    QuietStep (s.putHealth src h) (s.setHealth src h c) := by
  unfold State.setHealth
  dsimp only
  split
  · exact QuietStep.refl _
  · exact State.healthChanged_quiet _ _ _ _

theorem State.setHealth_health (src : Fin 48) (h : Health) (c : HealthCause) (s : State) :
    (s.setHealth src h c).health = s.health.set src h := by
  rw [(s.setHealth_quiet src h c).health, State.putHealth_health]

theorem State.setHealth_sources (src : Fin 48) (h : Health) (c : HealthCause) (s : State) :
    (s.setHealth src h c).sources = s.sources := by
  rw [(s.setHealth_quiet src h c).sources, State.putHealth_sources]

theorem State.setHealth_windows (src : Fin 48) (h : Health) (c : HealthCause) (s : State) :
    (s.setHealth src h c).windows = s.windows := by
  rw [(s.setHealth_quiet src h c).windows, State.putHealth_windows]

/-- A judged arrival changes source records, health and what a health change touches. -/
theorem State.judged_step (src : Fin 48) (k : Nat) (v : Verdict) (s : State) :
    TableStep s (s.judged src k v) := by
  unfold State.judged
  dsimp only
  exact (s.modSource_step _ _).trans (State.setHealth_step _ _ _ _)

theorem State.arrive_step (src : Fin 48) (k : Nat) (h : Option (List Byte)) (s : State) :
    TableStep s (s.arrive src k h) := by
  unfold State.arrive
  dsimp only
  split
  · exact s.judged_step _ _ _
  · exact TableStep.refl s

theorem State.ingress_step (src : Fin 48) (k off : Nat) (bytes : List (Byte × Bool)) (s : State) :
    TableStep s (s.ingress src k off bytes) := by
  unfold State.ingress
  split
  · exact TableStep.refl s
  · exact s.arrive_step _ _ _
  · exact s.arrive_step _ _ _

/-! ### Orders and expiries over the tables -/

theorem State.clearSource_step (i : Fin 48) (s : State) : TableStep s (s.clearSource i) :=
  (s.modSource_step _ _).trans (State.setHealth_step _ _ _ _)

theorem State.defineHealth_step (r : Source) (o : SourceOrder) (s : State) :
    TableStep s (s.defineHealth r o) := by
  unfold State.defineHealth
  dsimp only
  repeat' split
  all_goals first | exact TableStep.refl s | exact s.setHealth_step _ _ _ | exact s.putHealth_step _ _

theorem State.forceLeg_quiet (i : Fin 256) (f : ForcedLeg) (s : State) : QuietStep s (s.forceLeg i f) := by
  have pin : ∀ (l : Leg) (g : ForcedLeg) (n : LegName), QuietStep s (s.pinLeg i l g n) := by
    intro l g n
    unfold State.pinLeg
    dsimp only
    repeat' split
    all_goals first | exact s.putLeg_quiet _ _ | exact s.switchLeg_quiet _ _ _ _ _
  unfold State.forceLeg
  dsimp only
  split
  · exact QuietStep.refl s
  · refine QuietStep.trans ?_ (State.judge_quiet _ _)
    split
    · exact pin _ _ _
    · exact pin _ _ _
    · exact (s.putLeg_quiet _ _).trans (State.legRules_quiet _ _ _ _)

theorem State.restoreLeg_quiet (i : Fin 256) (l : Leg) (s : State) : QuietStep s (s.restoreLeg i l) := by
  unfold State.restoreLeg
  dsimp only
  split
  · exact s.switchLeg_quiet _ _ _ _ _
  · exact s.putLeg_quiet _ _

theorem State.enterOverrun_step (i : Fin 256) (s : State) : TableStep s (s.enterOverrun i) :=
  (s.modBooking_step _ _).trans (State.offer_step _ _)

theorem State.extendBooking_step (i : Fin 256) (e : Nat) (s : State) :
    TableStep s (s.extendBooking i e) := by
  apply TableStep.ofTables <;> rfl

theorem State.recordBooking_step (i : Fin 256) (o : BookOrder) (s : State) :
    TableStep s (s.recordBooking i o) := by
  apply TableStep.ofTables <;> rfl

theorem State.firstState_step (i : Fin 256) (s : State) : TableStep s (s.firstState i) := by
  unfold State.firstState
  dsimp only
  repeat' split
  all_goals first | exact s.startBooking_step _ _ | exact s.enterPreroll_step _ | exact s.modBooking_step _ _

theorem State.haltBookings_step (s : State) : TableStep s s.haltBookings :=
  TableStep.foldl _ (fun s i => s.closeBooking_step i _ _) _ _

theorem State.offerRates_quiet (s : State) : QuietStep s s.offerRates :=
  QuietStep.foldl (fun s (i : Fin 48) => s.offer (s.sources[i].rateNotice i))
    (fun s _ => s.offer_quiet _) _ _

theorem State.clearIntervals_step (s : State) : TableStep s s.clearIntervals := by
  apply TableStep.ofTables <;> rfl

theorem State.closeInterval_step (s : State) : TableStep s s.closeInterval :=
  s.offerRates_quiet.toTableStep.trans (State.clearIntervals_step _)

end Sys2Proof.Machine
end

