-- ==== Sys2Proof/Laws/Expiries.lean ====
section
/-! SUPPORT. What taking the due expiries can do, said once: each expiry is a step of the tables (the rate
interval moves its own expiry besides), does nothing where it is not due, and a tick's takings are a run of
them. -/

namespace Sys2Proof.Machine

/-! ### One expiry -/

theorem State.takeSilence_step (i : Fin 48) (s : State) : TableStep s (s.takeSilence i) := by
  unfold State.takeSilence
  split
  · exact State.setHealth_step ..
  · exact .refl s

theorem State.restoreLeg_step (i : Fin 256) (l : Leg) (s : State) : TableStep s (s.restoreLeg i l) := by
  unfold State.restoreLeg
  split
  · exact State.switchLeg_step ..
  · exact State.putLeg_step ..

theorem State.takeRestore_step (i : Fin 256) (s : State) : TableStep s (s.takeRestore i) := by
  unfold State.takeRestore
  split
  · exact .refl s
  · split
    · exact State.restoreLeg_step ..
    · exact .refl s

theorem State.takePreroll_step (i : Fin 256) (s : State) : TableStep s (s.takePreroll i) := by
  unfold State.takePreroll
  split
  · split
    · exact State.cancelBooking_step ..
    · exact State.enterPreroll_step ..
  · exact .refl s

theorem State.takeLineWait_step (i : Fin 256) (s : State) : TableStep s (s.takeLineWait i) := by
  unfold State.takeLineWait
  split
  · exact State.endLineCheck_step ..
  · exact .refl s

theorem State.takeStart_step (i : Fin 256) (s : State) : TableStep s (s.takeStart i) := by
  unfold State.takeStart
  split
  · exact State.startBooking_step ..
  · exact .refl s

theorem State.takeEnd_step (i : Fin 256) (s : State) : TableStep s (s.takeEnd i) := by
  unfold State.takeEnd
  split
  · split
    · exact State.enterOverrun_step ..
    · exact State.closeBooking_step ..
  · exact .refl s

theorem State.takeCap_step (i : Fin 256) (s : State) : TableStep s (s.takeCap i) := by
  unfold State.takeCap
  split
  · exact State.closeBooking_step ..
  · exact .refl s

/-- The rate interval moves its own expiry; the rest is a step of the tables. -/
theorem State.takeRate_spec (s : State) :
    ∃ e, TableStep (s.modTime fun b => { b with rateExpiry := e }) s.takeRate := by
  unfold State.takeRate
  split
  · exact ⟨s.time.rateExpiry, .refl s⟩
  · split
    · exact ⟨_, State.closeInterval_step _⟩
    · exact ⟨s.time.rateExpiry, .refl s⟩

/-! ### The takings of a tick -/

/-- A property that every expiry keeps, a tick's takings keep. -/
theorem State.takeDue_induct {P : State → Prop} (rate : ∀ s, P s → P s.takeRate)
    (silence : ∀ s i, P s → P (s.takeSilence i)) (restore : ∀ s i, P s → P (s.takeRestore i))
    (preroll : ∀ s i, P s → P (s.takePreroll i)) (lineWait : ∀ s i, P s → P (s.takeLineWait i))
    (start : ∀ s i, P s → P (s.takeStart i)) (finish : ∀ s i, P s → P (s.takeEnd i))
    (cap : ∀ s i, P s → P (s.takeCap i)) (s : State) (h : P s) : P s.takeDue := by
  have fold : ∀ {α : Type} (f : State → α → State), (∀ s a, P s → P (f s a)) →
      ∀ (l : List α) (s : State), P s → P (l.foldl f s) := by
    intro α f hf l
    induction l with
    | nil => exact fun _ hs => hs
    | cons a l ih => exact fun s hs => ih _ (hf s a hs)
  exact fold _ cap _ _ (fold _ finish _ _ (fold _ start _ _ (fold _ lineWait _ _
    (fold _ preroll _ _ (fold _ restore _ _ (fold _ silence _ _ (rate s h)))))))

/-- Nothing is due where every expiry of the kind is not. -/
theorem State.bookingsDue_nil {s : State} {e : Booking → Option Nat}
    (h : ∀ i : Fin 256, dueAt s.now (e s.bookings[i]) = false) : s.bookingsDue e = [] := by
  simp only [State.bookingsDue, State.bookingsWhere, List.filter_eq_nil_iff]
  intro i _
  exact ne_of_eq_of_ne (h i) Bool.false_ne_true

/-- What `anyDue` denies, record by record. -/
theorem State.anyDue_false_iff (s : State) : s.anyDue = false ↔
    dueAt s.now s.time.rateExpiry = false ∧
      (∀ i : Fin 48, dueAt s.now s.health[i].silence = false) ∧
      (∀ (i : Fin 256) (l : Leg), s.legs[i] = some l → dueAt s.now l.wtrExp = false) ∧
      ∀ i : Fin 256, s.bookings[i].anyDue s.now = false := by
  simp only [State.anyDue, Bool.or_eq_false_iff, List.any_eq_false, Bool.not_eq_true, and_assoc,
    Vector.mem_toList_iff, Vector.mem_iff_getElem, forall_exists_index]
  refine and_congr Iff.rfl (and_congr ?_ (and_congr ?_ ?_))
  · exact ⟨fun h i => h _ i.val i.isLt rfl, fun h x i hi e => e ▸ h ⟨i, hi⟩⟩
  · constructor
    · intro h i l hl
      have := h _ i.val i.isLt rfl
      simp only [Fin.getElem_fin] at hl
      rwa [hl] at this
    · intro h x i hi e
      subst e
      split
      · rfl
      · exact h ⟨i, hi⟩ _ (by assumption)
  · exact ⟨fun h i => h _ i.val i.isLt rfl, fun h x i hi e => e ▸ h ⟨i, hi⟩⟩

theorem State.takeRate_of_not_due {s : State} (h : dueAt s.now s.time.rateExpiry = false) :
    s.takeRate = s := by
  unfold State.takeRate
  split
  · rfl
  · rename_i t ht
    simp only [ht, dueAt, decide_eq_false_iff_not] at h
    simp [h]

/-- With nothing due a tick takes nothing. -/
theorem State.takeDue_of_not_due {s : State} (h : s.anyDue = false) : s.takeDue = s := by
  obtain ⟨h1, h2, h3, h4⟩ := s.anyDue_false_iff.1 h
  have h5 : ∀ i : Fin 256, dueAt s.now s.bookings[i].prerollExp = false ∧
      dueAt s.now s.bookings[i].startExp = false ∧ dueAt s.now s.bookings[i].endExp = false ∧
      dueAt s.now s.bookings[i].capExp = false ∧ dueAt s.now s.bookings[i].lineExp = false := by
    intro i
    have := h4 i
    simp only [Booking.anyDue, Bool.or_eq_false_iff] at this
    tauto
  have e2 : s.silencesDue = [] := by
    simp only [State.silencesDue, List.filter_eq_nil_iff]
    exact fun i _ => ne_of_eq_of_ne (h2 i) Bool.false_ne_true
  have e3 : s.restoresDue = [] := by
    simp only [State.restoresDue, List.filter_eq_nil_iff]
    intro i _
    split
    · simp
    · rename_i l hl
      simp [h3 i l hl]
  simp [State.takeDue, State.takeRate_of_not_due h1, e2, e3, State.bookingsDue_nil fun i => (h5 i).1,
    State.bookingsDue_nil fun i => (h5 i).2.1, State.bookingsDue_nil fun i => (h5 i).2.2.1,
    State.bookingsDue_nil fun i => (h5 i).2.2.2.1, State.bookingsDue_nil fun i => (h5 i).2.2.2.2]

/-- A tick takes what is due, and then counts. -/
theorem State.tick_eq (s : State) : s.tick = s.takeDue.modTime TimeBase.tick := by
  cases h : s.anyDue <;> simp [State.tick, h, State.takeDue_of_not_due]

/-- A tick's takings are a step of the tables but for the rate interval's own expiry. -/
theorem State.takeDue_spec (s : State) :
    ∃ e, TableStep (s.modTime fun b => { b with rateExpiry := e }) s.takeDue := by
  refine State.takeDue_induct
    (P := fun t => ∃ e, TableStep (s.modTime fun b => { b with rateExpiry := e }) t)
    ?_ (fun t i ⟨e, h⟩ => ⟨e, h.trans (t.takeSilence_step i)⟩)
    (fun t i ⟨e, h⟩ => ⟨e, h.trans (t.takeRestore_step i)⟩)
    (fun t i ⟨e, h⟩ => ⟨e, h.trans (t.takePreroll_step i)⟩)
    (fun t i ⟨e, h⟩ => ⟨e, h.trans (t.takeLineWait_step i)⟩)
    (fun t i ⟨e, h⟩ => ⟨e, h.trans (t.takeStart_step i)⟩)
    (fun t i ⟨e, h⟩ => ⟨e, h.trans (t.takeEnd_step i)⟩)
    (fun t i ⟨e, h⟩ => ⟨e, h.trans (t.takeCap_step i)⟩) s ⟨s.time.rateExpiry, .refl s⟩
  rintro t ⟨e, h⟩
  obtain ⟨e', h'⟩ := t.takeRate_spec
  refine ⟨e', ⟨h'.pending.trans h.pending, h'.resetLine.trans h.resetLine, h'.path.trans h.path,
    h'.port.trans h.port, h'.ctl.trans h.ctl, ?_, h'.tariffs.trans h.tariffs,
    h'.consumer.trans h.consumer, h'.head.trans h.head, h'.published.trans h.published,
    h'.publishedTag.trans h.publishedTag, h'.posting.trans h.posting, h'.reserved.trans h.reserved,
    h'.haltPlaced.trans h.haltPlaced, h.hold.trans h'.hold, h'.used ∘ h.used, h'.lost ∘ h.lost,
    h'.waits ∘ h.waits⟩⟩
  rw [h'.time, State.modTime, State.modTime]
  simp [h.time]

end Sys2Proof.Machine
end

