-- ==== Sys2Proof/Laws/Orders.lean ====
section
/-! SUPPORT. How an order is answered: the one shape every order's command has, and what the answer changes. -/

namespace Sys2Proof.Machine

/-- The fetch an arriving order answers. -/
theorem State.orderArrives.fetchIndex {s : State} {mtag index code : Nat} {entry : List Byte}
    (h : s.orderArrives mtag index code entry) : s.fetchIndex mtag = some index := by
  obtain ⟨h1, h2, h3, _⟩ := h
  simp [State.fetchIndex, h1, h2, h3]

/-- An order whose entry has the right shape runs its body and is answered with the body's reply. -/
theorem State.runOrder_shaped {s : State} {mtag index code : Nat} {entry : List Byte}
    (h : s.orderArrives mtag index code entry) (hs : shapeOk code entry = true)
    (body : Nat → State → State × OrderReply) :
    s.runOrder code mtag entry body =
      (body index (s.dropResponse mtag)).1.answerOrder
        ((body index (s.dropResponse mtag)).2.report entry index) := by
  simp [State.runOrder, h.fetchIndex, h.2.2.2, hs]

/-- An order whose entry has a wrong shape is refused MALFORMED (R32). -/
theorem State.runOrder_malformed {s : State} {mtag index code : Nat} {entry : List Byte}
    (h : s.orderArrives mtag index code entry) (hs : shapeOk code entry = false)
    (body : Nat → State → State × OrderReply) :
    s.runOrder code mtag entry body = s.refusedWith mtag index entry .malformed := by
  simp [State.runOrder, h.fetchIndex, h.2.2.2, hs, refuseOrder, OrderReply.report, State.refusedWith]

/-- A body that refuses. -/
theorem State.runOrder_refused {s : State} {mtag index code : Nat} {entry : List Byte}
    (h : s.orderArrives mtag index code entry) (hs : shapeOk code entry = true)
    {body : Nat → State → State × OrderReply} {r : OrderReason}
    (hb : body index (s.dropResponse mtag) = refuseOrder r (s.dropResponse mtag)) :
    s.runOrder code mtag entry body = s.refusedWith mtag index entry r := by
  rw [State.runOrder_shaped h hs, hb]
  rfl

/-- A body that carries the order out. -/
theorem State.runOrder_done {s u : State} {mtag index code : Nat} {entry : List Byte}
    (h : s.orderArrives mtag index code entry) (hs : shapeOk code entry = true)
    {body : Nat → State → State × OrderReply} {clamped : Bool} {r : OrderResult}
    (hb : body index (s.dropResponse mtag) = doneOrder clamped r u) :
    s.runOrder code mtag entry body = u.doneWith index entry clamped r := by
  rw [State.runOrder_shaped h hs, hb]
  rfl

/-- A response that is no order's arrival changes nothing. -/
theorem State.runOrder_idle {s : State} {mtag code : Nat} {entry : List Byte}
    (h : s.fetchIndex mtag = none) (body : Nat → State → State × OrderReply) :
    s.runOrder code mtag entry body = s := by
  simp [State.runOrder, h]

/-- Placing an entry keeps the own-traffic queue within its size (R17). -/
theorem Port.place_own (x : OwnTxn) (p : Port) (h : p.own.length ≤ 8) : (p.place x).own.length ≤ 8 := by
  unfold Port.place
  split
  · rename_i c
    simp only [Bool.and_eq_true] at c
    have := of_decide_eq_true c.1
    simp only [List.length_append, List.length_cons, List.length_nil]
    simp only [Config.ownCapacity] at this
    omega
  · exact h

theorem Port.place_forwarded (x : OwnTxn) (p : Port) : (p.place x).forwarded = p.forwarded := by
  unfold Port.place
  split <;> rfl

theorem Port.place_answers (x : OwnTxn) (p : Port) : (p.place x).answers = p.answers := by
  unfold Port.place
  split <;> rfl

theorem Port.place_outstanding (x : OwnTxn) (p : Port) : (p.place x).outstanding = p.outstanding := by
  unfold Port.place
  split <;> rfl

/-- The answer fills the reserved entry: the hold queue keeps its used entries. -/
theorem State.answerOrder_used (body : ReportBody) (s : State) (h : s.poster.reserved = true) :
    (s.answerOrder body).poster.used = s.poster.used := by
  simp [State.answerOrder, State.advanceHead, Poster.fillReserved, Poster.used, h]

/-- The fields an answer leaves. -/
theorem State.answerOrder_frame (body : ReportBody) (s : State) :
    (s.answerOrder body).pending = s.pending ∧ (s.answerOrder body).resetLine = s.resetLine ∧
      (s.answerOrder body).path = s.path ∧ (s.answerOrder body).time = s.time ∧
      (s.answerOrder body).sources = s.sources ∧ (s.answerOrder body).health = s.health ∧
      (s.answerOrder body).legs = s.legs ∧ (s.answerOrder body).tariffs = s.tariffs ∧
      (s.answerOrder body).bookings = s.bookings ∧ (s.answerOrder body).calendar = s.calendar ∧
      (s.answerOrder body).useCounts = s.useCounts ∧ (s.answerOrder body).windows = s.windows ∧
      (s.answerOrder body).settlements = s.settlements ∧
      (s.answerOrder body).ctl.settings = s.ctl.settings ∧ (s.answerOrder body).ctl.act = s.ctl.act :=
  ⟨rfl, rfl, rfl, rfl, rfl, rfl, rfl, rfl, rfl, rfl, rfl, rfl, rfl, rfl, rfl⟩

/-! ### The bodies of the orders -/

/-- `t` follows from `s` by the body of an order: the tables, house time and the hold queue. -/
structure BodyStep (s t : State) : Prop where
  pending : t.pending = s.pending
  resetLine : t.resetLine = s.resetLine
  path : t.path = s.path
  port : t.port = s.port
  ctl : t.ctl = s.ctl
  reserved : t.poster.reserved = s.poster.reserved
  used : s.poster.used ≤ 16 → t.poster.used ≤ 16
  lost : s.poster.lost ≤ 65535 → t.poster.lost ≤ 65535
  waits : s.settlementsWait → t.settlementsWait

theorem TableStep.body {s t : State} (h : TableStep s t) : BodyStep s t :=
  ⟨h.pending, h.resetLine, h.path, h.port, h.ctl, h.reserved, h.used, h.lost, h.waits⟩

theorem BodyStep.refl (s : State) : BodyStep s s := (TableStep.refl s).body

theorem defineSourceOrder_body (e : List Byte) (n : Nat) (s : State) :
    BodyStep s (defineSourceOrder e n s).1 := by
  unfold defineSourceOrder
  dsimp only
  repeat' split
  · exact BodyStep.refl s
  · exact BodyStep.refl s
  · exact ((s.modSource_step _ _).trans (State.defineHealth_step _ _ _)).body

theorem clearOrder_body (e : List Byte) (n : Nat) (s : State) : BodyStep s (clearOrder e n s).1 := by
  unfold clearOrder
  repeat' split
  · exact BodyStep.refl s
  · exact (s.clearSource_step _).body
  · exact BodyStep.refl s

theorem forceLegOrder_body (e : List Byte) (n : Nat) (s : State) :
    BodyStep s (forceLegOrder e n s).1 := by
  unfold forceLegOrder
  dsimp only
  repeat' split
  · exact BodyStep.refl s
  · exact BodyStep.refl s
  · exact (s.forceLeg_quiet _ _).toTableStep.body
  · exact BodyStep.refl s

theorem tariffOrder_body (e : List Byte) (n : Nat) (s : State) : BodyStep s (tariffOrder e n s).1 := by
  unfold tariffOrder
  split
  · exact BodyStep.refl s
  · exact ⟨rfl, rfl, rfl, rfl, rfl, rfl, id, id, id⟩

theorem bookOrder_body (e : List Byte) (n : Nat) (s : State) : BodyStep s (bookOrder e n s).1 := by
  unfold bookOrder
  repeat' split
  · exact BodyStep.refl s
  · exact BodyStep.refl s
  · exact ((s.recordBooking_step _ _).trans (State.firstState_step _ _)).body

theorem extendOrder_body (e : List Byte) (n : Nat) (s : State) : BodyStep s (extendOrder e n s).1 := by
  unfold extendOrder
  dsimp only
  repeat' split
  all_goals first | exact BodyStep.refl s | exact (s.extendBooking_step _ _).body

theorem releaseOrder_body (e : List Byte) (n : Nat) (s : State) : BodyStep s (releaseOrder e n s).1 := by
  unfold releaseOrder
  dsimp only
  repeat' split
  all_goals first | exact BodyStep.refl s | exact (s.closeBooking_step _ _ _).body

theorem cancelOrder_body (e : List Byte) (n : Nat) (s : State) : BodyStep s (cancelOrder e n s).1 := by
  unfold cancelOrder
  dsimp only
  repeat' split
  all_goals first | exact BodyStep.refl s | exact (s.cancelBooking_step _ _).body

theorem meterOrder_same (e : List Byte) (n : Nat) (s : State) : (meterOrder e n s).1 = s := by
  unfold meterOrder
  dsimp only
  repeat' split
  all_goals rfl

theorem meterOrder_body (e : List Byte) (n : Nat) (s : State) : BodyStep s (meterOrder e n s).1 := by
  rw [meterOrder_same]
  exact BodyStep.refl s

theorem defineWindowOrder_body (e : List Byte) (n : Nat) (s : State) :
    BodyStep s (defineWindowOrder e n s).1 := by
  unfold defineWindowOrder
  dsimp only
  repeat' split
  all_goals first | exact BodyStep.refl s | exact (s.putWindow_step _ _).body

theorem setTimeOrder_body (e : List Byte) (n : Nat) (s : State) : BodyStep s (setTimeOrder e n s).1 := by
  unfold setTimeOrder
  dsimp only
  repeat' split
  · exact BodyStep.refl s
  · exact BodyStep.refl s
  · exact ⟨rfl, rfl, rfl, rfl, rfl, rfl, id, id, id⟩

end Sys2Proof.Machine
end

