-- ==== Sys2Proof/Laws/Reports.lean ====
section
/-! SUPPORT. The bytes of a report entry, read as fields: little-endian chunks laid one after another hold
their values at their offsets, and each report is such a list of chunks. -/

namespace Sys2Proof.Machine

/-! ### Little-endian bytes -/

@[simp] theorem leBytes_length (n v : Nat) : (leBytes n v).length = n := by
  induction n generalizing v with
  | zero => rfl
  | succ n ih => simp [leBytes, ih]

theorem leNat_leBytes (n v : Nat) : leNat (leBytes n v) = v % 256 ^ n := by
  induction n generalizing v with
  | zero => simp [leBytes, leNat, Nat.mod_one]
  | succ n ih =>
    simp only [leBytes, leNat, ih, BitVec.toNat_ofNat]
    rw [show 256 ^ (n + 1) = 256 * 256 ^ n from Nat.pow_succ']
    exact Nat.mod_mul.symm

theorem leBytes_zero (n : Nat) : leBytes n 0 = List.replicate n 0 := by
  induction n with
  | zero => rfl
  | succ n ih => simp [leBytes, ih, List.replicate_succ]

theorem singleton_eq_leBytes (b : Byte) : [b] = leBytes 1 b.toNat := by
  simp [leBytes]

/-! ### Chunks -/

/-- Numbers of given sizes, laid one after another. -/
def chunkBytes (cs : List (Nat × Nat)) : List Byte := cs.flatMap fun c => leBytes c.1 c.2

/-- The chunks as fields, from an offset on. -/
def chunksAt : Nat → List (Nat × Nat) → List ReportField
  | _, [] => []
  | o, c :: cs => (o, c.1, c.2) :: chunksAt (o + c.1) cs

/-- The bytes that the chunks take. -/
def chunkSize (cs : List (Nat × Nat)) : Nat := (cs.map (·.1)).sum

@[simp] theorem chunkBytes_length (cs : List (Nat × Nat)) : (chunkBytes cs).length = chunkSize cs := by
  simp [chunkBytes, chunkSize, List.length_flatMap]

theorem chunkBytes_append (a b : List (Nat × Nat)) : chunkBytes (a ++ b) = chunkBytes a ++ chunkBytes b := by
  simp [chunkBytes]

/-- A chunk stands at its offset. -/
theorem drop_take_chunk {cs : List (Nat × Nat)} {o : Nat} {f : ReportField} (h : f ∈ chunksAt o cs) :
    o ≤ f.1 ∧ f.1 + f.2.1 ≤ o + chunkSize cs ∧
      ((chunkBytes cs).drop (f.1 - o)).take f.2.1 = leBytes f.2.1 f.2.2 := by
  induction cs generalizing o with
  | nil => simp [chunksAt] at h
  | cons c cs ih =>
    simp only [chunksAt, List.mem_cons] at h
    rcases h with rfl | h
    · refine ⟨Nat.le_refl o, ?_, ?_⟩
      · simp [chunkSize]
      · simp [chunkBytes]
    · obtain ⟨h1, h2, h3⟩ := ih h
      refine ⟨by omega, ?_, ?_⟩
      · simp only [chunkSize, List.map_cons, List.sum_cons] at h2 ⊢
        omega
      · have hd : f.1 - o = c.1 + (f.1 - (o + c.1)) := by omega
        rw [hd, chunkBytes, List.flatMap_cons, List.drop_append]
        simp only [leBytes_length]
        rw [List.drop_of_length_le (by simp), Nat.add_sub_cancel_left, List.nil_append]
        exact h3

/-- Every byte belongs to some chunk. -/
theorem exists_chunk {cs : List (Nat × Nat)} {o i : Nat} (h1 : o ≤ i) (h2 : i < o + chunkSize cs) :
    ∃ f ∈ chunksAt o cs, f.1 ≤ i ∧ i < f.1 + f.2.1 := by
  induction cs generalizing o with
  | nil => simp [chunkSize] at h2; omega
  | cons c cs ih =>
    simp only [chunkSize, List.map_cons, List.sum_cons] at h2
    by_cases h : i < o + c.1
    · exact ⟨_, List.mem_cons_self, h1, h⟩
    · obtain ⟨f, hf, h3⟩ := ih (o := o + c.1) (by omega) (by simp only [chunkSize]; omega)
      exact ⟨f, List.mem_cons_of_mem _ hf, h3⟩

/-- Chunks of 128 bytes in all hold a list of fields when every field is a chunk, and every other chunk is
zero. -/
theorem holdsFields_chunks {cs : List (Nat × Nat)} {fs : List ReportField} (hn : chunkSize cs = 128)
    (h1 : ∀ f ∈ fs, f ∈ chunksAt 0 cs) (h2 : ∀ f ∈ chunksAt 0 cs, f ∈ fs ∨ f.2.2 = 0) :
    holdsFields (chunkBytes cs) fs := by
  refine ⟨by simp [hn], fun f hf => ?_, fun i hi hnone => ?_⟩
  · have := (drop_take_chunk (h1 f hf)).2.2
    simp only [Nat.sub_zero] at this
    rw [field, this, leNat_leBytes]
  · obtain ⟨f, hf, ha, hb⟩ := exists_chunk (cs := cs) (o := 0) (i := i) (by omega) (by omega)
    rcases h2 f hf with h | h
    · exact absurd ⟨ha, hb⟩ (hnone f h)
    · have e := (drop_take_chunk hf).2.2
      rw [h, leBytes_zero, Nat.sub_zero] at e
      have e2 := congrArg (fun l : List Byte => l[i - f.1]?) e
      simp only [List.getElem?_take, List.getElem?_drop, List.getElem?_replicate] at e2
      rw [if_pos (by omega), if_pos (by omega), Nat.add_sub_cancel' ha] at e2
      simp [byteAt, List.getD, e2]

/-! ### The reports as chunks -/

/-- One-byte chunks of a handle. -/
def handleChunks (h : Handle) : List (Nat × Nat) := [(1, h.index.val), (1, h.gen.toNat)]

/-- One-byte chunks of a window list. -/
def windowChunks (ws : List (Fin 32)) : List (Nat × Nat) :=
  (List.range 4).map fun k => (1, match ws[k]? with | none => 0xFF | some w => w.val)

theorem bHandle_chunks (h : Handle) : bHandle h = chunkBytes (handleChunks h) := by
  simp [bHandle, chunkBytes, handleChunks, b1, ← singleton_eq_leBytes]

theorem bWindows_chunks (ws : List (Fin 32)) : bWindows ws = chunkBytes (windowChunks ws) := by
  match ws with
  | [] => rfl
  | [_] => simp [bWindows, chunkBytes, windowChunks, leBytes, List.range_succ]
  | [_, _] => simp [bWindows, chunkBytes, windowChunks, leBytes, List.range_succ]
  | [_, _, _] => simp [bWindows, chunkBytes, windowChunks, leBytes, List.range_succ]
  | _ :: _ :: _ :: _ :: _ => simp [bWindows, chunkBytes, windowChunks, leBytes, List.range_succ]

theorem bTime?_leBytes (t : Option Nat) : bTime? t = leBytes 6 (t.getD (2 ^ 48 - 1)) := by
  cases t with
  | none => decide
  | some x => rfl

theorem bSeq?_leBytes (q : Option Word16) :
    bSeq? q = leBytes 2 (match q with | none => 0xFFFF | some x => x.toNat) := by
  cases q with
  | none => decide
  | some x => rfl

theorem bSource?_leBytes (x : Option (Fin 48)) :
    bSource? x = leBytes 1 (match x with | none => 0xFF | some i => i.val) := by
  cases x with
  | none => decide
  | some i => rfl

theorem cons_chunk (n v : Nat) (cs : List (Nat × Nat)) :
    leBytes n v ++ chunkBytes cs = chunkBytes ((n, v) :: cs) := rfl

theorem chunkBytes_nil : chunkBytes [] = [] := rfl

/-- A record of chunks is padded by one more chunk of zeros. -/
theorem padTo_chunks {n : Nat} {cs : List (Nat × Nat)} (h : chunkSize cs ≤ n) :
    padTo n (chunkBytes cs) = chunkBytes (cs ++ [(n - chunkSize cs, 0)]) := by
  have e : chunkBytes [(n - chunkSize cs, 0)] = List.replicate (n - chunkSize cs) 0 := by
    simp [chunkBytes, leBytes_zero]
  rw [chunkBytes_append, e, padTo, zeros, List.take_append, List.take_of_length_le (by simp [h])]
  simp

/-- A handle, as two chunks. -/
theorem bHandle_leBytes (h : Handle) : bHandle h = leBytes 1 h.index.val ++ leBytes 1 h.gen.toNat := by
  simp [bHandle, b1, ← singleton_eq_leBytes]

/-- The source snapshot (Table 9-11). -/
def SourceSnapshot.chunks (x : SourceSnapshot) : List (Nat × Nat) :=
  [(1, x.enabled.toNat + 2 * x.last.isSome.toNat), (1, x.newest.getD 0xFF),
    (2, match x.last with | none => 0xFFFF | some q => q.toNat), (4, x.intervalBytes), (4, x.accepted),
    (4, x.gaps), (4, x.voids.held), (4, x.voids.torn), (4, x.voids.check), (4, x.voids.tag),
    (4, x.voids.length), (4, x.voids.misplaced), (4, x.voids.stale), (4, x.voids.overRate)]

/-- The window snapshot (Table 9-12). -/
def WindowSnapshot.chunks (x : WindowSnapshot) : List (Nat × Nat) :=
  [(1, x.holder.isSome.toNat + 2 * x.takePending.toNat + 4 * x.last.isSome.toNat), (1, x.shift)] ++
  (match x.holder with | none => [(2, 0xFFFF)] | some h => handleChunks h) ++
  [(2, match x.last with | none => 0xFFFF | some q => q.toNat), (2, x.dseq.toNat), (1, x.fillRun), (1, 0),
    (4, x.counters.delivered), (4, x.counters.unrouted), (4, x.counters.sourceDown),
    (4, x.counters.noBaseline), (4, x.counters.underrun), (4, x.counters.void), (4, x.counters.skipped),
    (4, x.counters.realigns)]

/-- The results of a DONE completion (Table 9-10). -/
def OrderResult.chunks : OrderResult → List (Nat × Nat)
  | .defineSource src enable tag silence fm strikes recov allowance snap =>
    [(1, src.val), (1, enable.toNat), (2, tag.toNat), (4, silence), (1, fm.code), (1, strikes), (1, recov),
      (1, 0), (4, allowance)] ++ snap.chunks
  | .clear src cause => [(1, src.val), (1, failureCode? cause)]
  | .forceLeg h forced active => handleChunks h ++ [(1, forced.code), (1, legCode? active)]
  | .tariff c before => [(1, c.val), (1, before.toNat)]
  | .book h reached s e account matchRef =>
    handleChunks h ++ [(1, reached.code), (1, 0), (6, s), (6, e), (4, account.toNat), (4, matchRef.toNat)]
  | .extend h st newEnd granted => handleChunks h ++ [(1, st.code), (1, 0), (6, newEnd), (4, granted)]
  | .release h ae => handleChunks h ++ [(2, 0), (6, ae)]
  | .cancel h late ct => handleChunks h ++ [(1, late.toNat), (1, 0), (6, ct)]
  | .defineWindow w before tag guard snap =>
    [(1, w.val), (1, before.toNat), (2, tag.toNat), (2, guard)] ++ snap.chunks
  | .setTime previous new => [(6, previous), (6, new)]
  | .halt => []

/-- A COMPLETION (Table 9-9). -/
def Completion.chunks (c : Completion) : List (Nat × Nat) :=
  match c.outcome with
  | .done clamped result =>
    [(1, c.kind.toNat), (1, 0), (1, 0), (1, clamped.toNat), (4, c.tag.toNat), (2, c.index), (6, 0)] ++
      result.chunks
  | .refused reason =>
    [(1, c.kind.toNat), (1, 1), (1, reason.code), (1, 0), (4, c.tag.toNat), (2, c.index), (6, 0)]

/-- A METER report (Table 9-13). -/
def MeterReport.chunks (m : MeterReport) : List (Nat × Nat) :=
  [(4, m.tag.toNat), (2, m.index)] ++ handleChunks m.handle ++
  [(1, m.state.code), (1, m.charges.capped.toNat + 2 * m.openLength.isSome.toNat), (6, m.startS),
    (6, m.endE), (6, m.actStart.getD (2 ^ 48 - 1)), (6, m.actEnd), (4, m.charges.bookedMs),
    (4, m.charges.overrunMs), (4, m.charges.chargeableMs), (4, m.charges.qualifyingMs),
    (2, m.charges.baseMin), (2, m.charges.overMin), (2, m.charges.creditMin), (6, m.charges.baseCharge),
    (6, m.charges.overCharge), (6, m.charges.credit), (6, m.charges.total), (4, m.spans), (4, m.longest),
    (4, m.openLength.getD 0), (4, m.delivered), (6, m.deliveredBytes), (4, m.fills), (4, m.skipped),
    (4, m.legSwitches)]

/-- A SETTLEMENT report (Table 9-14). -/
def Settlement.chunks (x : Settlement) : List (Nat × Nat) :=
  handleChunks x.handle ++
  [(1, x.closeByte), (1, x.main.val), (1, match x.backup with | none => 0xFF | some i => i.val)] ++
  windowChunks x.windows ++
  [(4, x.account.toNat), (4, x.matchRef.toNat), (6, x.startS), (6, x.endE),
    (6, x.actStart.getD (2 ^ 48 - 1)), (6, x.actEnd.getD (2 ^ 48 - 1)),
    (6, x.cancelTime.getD (2 ^ 48 - 1)), (4, x.charges.bookedMs), (3, x.charges.overrunMs),
    (3, x.charges.chargeableMs), (4, x.charges.qualifyingMs), (2, x.charges.baseMin),
    (1, x.charges.overMin), (2, x.charges.creditMin), (6, x.charges.baseCharge), (6, x.charges.overCharge),
    (6, x.charges.credit), (6, x.charges.total), (4, x.spans), (4, x.longest), (4, x.delivered),
    (6, x.deliveredBytes), (4, x.fills), (4, x.skipped), (4, x.legSwitches)]

/-- The chunks of a report from 0x08. -/
def ReportBody.chunks (last : Option Offender) : ReportBody → List (Nat × Nat)
  | .completion c => c.chunks
  | .meter m => m.chunks
  | .settlement x => x.chunks
  | .health n =>
    [(1, n.src.val), (1, n.before.code), (1, n.after.code), (1, n.cause.code), (1, n.faultMode.code),
      (1, n.strikes), (1, n.goodRun), (1, failureCode? n.failure)] ++ n.snapshot.chunks
  | .leg n =>
    handleChunks n.handle ++
    [(1, n.before.code), (1, n.after.code), (1, n.forced.code), (1, n.cause.code), (1, n.mainHealth.code),
      (1, healthCode? n.backupHealth)]
  | .lineCheck n =>
    handleChunks n.handle ++
    [(1, n.result.code), (1, n.trigger.code), (1, n.mainHealth.code), (1, healthCode? n.backupHealth)]
  | .onAir n =>
    handleChunks n.handle ++
    [(1, n.mode.code), (1, legCode? n.active), (1, n.deliverable.toNat), (1, n.mainHealth.code),
      (1, healthCode? n.backupHealth), (1, n.closed), (6, n.actStart), (6, n.endE)] ++ windowChunks n.windows
  | .overrun n =>
    handleChunks n.handle ++ windowChunks n.windows ++ [(2, 0), (6, n.endE), (6, n.capTime)]
  | .rate n => [(1, n.src.val), (3, 0), (4, n.overRate), (4, n.total), (4, n.allowance)]
  | .stray n =>
    [(1, n.kind.code), (1, n.id.val), (6, 0), (8, n.addr), (4, n.counts.boundary), (4, n.counts.span),
      (4, n.counts.ingressWrite), (4, n.counts.ingressRead), (4, n.counts.deliveryWrite),
      (4, n.counts.deliveryRead)] ++
    (match last with | none => [] | some o => [(1, o.id.val), (7, 0), (8, o.addr)])
  | .badIndex n =>
    [(1, n.word.code), (3, 0), (4, n.value.toNat), (2, n.count), (2, n.head), (2, n.other)]

theorem SourceSnapshot.bytes_chunks (x : SourceSnapshot) : x.bytes = chunkBytes x.chunks := by
  simp [SourceSnapshot.bytes, SourceSnapshot.chunks, chunkBytes, b1, bSeq?_leBytes, VoidCounters.bytes]

theorem WindowSnapshot.bytes_chunks (x : WindowSnapshot) : x.bytes = chunkBytes x.chunks := by
  have e : leBytes 2 0xFFFF = [0xFF, 0xFF] := by decide
  cases h : x.holder <;>
    simp [WindowSnapshot.bytes, WindowSnapshot.chunks, chunkBytes, handleChunks, b1, bHandle_leBytes, bWord16,
      bSeq?_leBytes, WindowCounters.bytes, h, e]

theorem OrderResult.bytes_chunks (r : OrderResult) : r.bytes = chunkBytes r.chunks := by
  cases r <;>
    simp [OrderResult.bytes, OrderResult.chunks, chunkBytes_append, SourceSnapshot.bytes_chunks,
      WindowSnapshot.bytes_chunks] <;>
    simp [chunkBytes, handleChunks, b1, bBool, bHandle_leBytes, bWord16, bWord32, bTime, zeros, leBytes_zero]

theorem Completion.bytes_chunks (c : Completion) : c.bytes = chunkBytes c.chunks := by
  have e := singleton_eq_leBytes c.kind
  cases h : c.outcome <;>
    simp [Completion.bytes, Completion.chunks, h, OrderResult.bytes_chunks, chunkBytes, e, b1, bWord32, zeros,
      leBytes_zero, -List.cons_append]

theorem MeterReport.bytes_chunks (m : MeterReport) : m.bytes = chunkBytes m.chunks := by
  unfold MeterReport.bytes MeterReport.chunks
  simp only [chunkBytes_append, bHandle_chunks, bTime?_leBytes]
  simp only [chunkBytes, List.flatMap_cons, List.flatMap_nil, List.append_nil, List.append_assoc, b1,
    bWord32, bTime]

theorem Settlement.bytes_chunks (x : Settlement) : x.bytes = chunkBytes x.chunks := by
  unfold Settlement.bytes Settlement.chunks
  simp only [chunkBytes_append, bHandle_chunks, bWindows_chunks, bTime?_leBytes, bSource?_leBytes]
  simp only [chunkBytes, List.flatMap_cons, List.flatMap_nil, List.append_nil, List.append_assoc, b1,
    bWord32, bTime]

theorem HealthNotice.bytes_chunks (n : HealthNotice) (last : Option Offender) :
    n.bytes = chunkBytes (ReportBody.chunks last (.health n)) := by
  simp [HealthNotice.bytes, ReportBody.chunks, SourceSnapshot.bytes_chunks]
  simp [chunkBytes, b1]

theorem LegNotice.bytes_chunks (n : LegNotice) (last : Option Offender) :
    n.bytes = chunkBytes (ReportBody.chunks last (.leg n)) := by
  simp [LegNotice.bytes, ReportBody.chunks, bHandle_chunks, chunkBytes_append]
  simp [chunkBytes, b1]

theorem LineCheckNotice.bytes_chunks (n : LineCheckNotice) (last : Option Offender) :
    n.bytes = chunkBytes (ReportBody.chunks last (.lineCheck n)) := by
  simp [LineCheckNotice.bytes, ReportBody.chunks, bHandle_chunks, chunkBytes_append]
  simp [chunkBytes, b1]

theorem OnAirNotice.bytes_chunks (n : OnAirNotice) (last : Option Offender) :
    n.bytes = chunkBytes (ReportBody.chunks last (.onAir n)) := by
  simp [OnAirNotice.bytes, ReportBody.chunks, bHandle_chunks, bWindows_chunks, chunkBytes_append]
  simp [chunkBytes, b1, bBool, bTime]

theorem OverrunNotice.bytes_chunks (n : OverrunNotice) (last : Option Offender) :
    n.bytes = chunkBytes (ReportBody.chunks last (.overrun n)) := by
  simp [OverrunNotice.bytes, ReportBody.chunks, bHandle_chunks, bWindows_chunks, chunkBytes_append]
  simp [chunkBytes, bTime, zeros, leBytes_zero]

theorem RateNotice.bytes_chunks (n : RateNotice) (last : Option Offender) :
    n.bytes = chunkBytes (ReportBody.chunks last (.rate n)) := by
  simp [RateNotice.bytes, ReportBody.chunks]
  simp [chunkBytes, b1, zeros, leBytes_zero]

theorem BadIndexNotice.bytes_chunks (n : BadIndexNotice) (last : Option Offender) :
    n.bytes = chunkBytes (ReportBody.chunks last (.badIndex n)) := by
  simp [BadIndexNotice.bytes, ReportBody.chunks]
  simp [chunkBytes, b1, bWord32, zeros, leBytes_zero]

theorem StrayNotice.bytes_chunks (n : StrayNotice) (last : Option Offender) :
    n.bytes last = chunkBytes (ReportBody.chunks last (.stray n)) := by
  cases last <;>
    simp [ReportBody.chunks, StrayNotice.bytes, StrayCounts.bytes, chunkBytes, b1, zeros, leBytes_zero]

/-- Every report is its chunks from 0x08 on. -/
theorem ReportBody.bytes_chunks (last : Option Offender) (r : ReportBody) :
    r.bytes last = chunkBytes (r.chunks last) := by
  cases r with
  | completion c => exact c.bytes_chunks
  | meter m => exact m.bytes_chunks
  | settlement x => exact x.bytes_chunks
  | health n => exact n.bytes_chunks last
  | leg n => exact n.bytes_chunks last
  | lineCheck n => exact n.bytes_chunks last
  | onAir n => exact n.bytes_chunks last
  | overrun n => exact n.bytes_chunks last
  | rate n => exact n.bytes_chunks last
  | stray n => exact n.bytes_chunks last
  | badIndex n => exact n.bytes_chunks last


theorem chunksAt_append (o : Nat) (a b : List (Nat × Nat)) :
    chunksAt o (a ++ b) = chunksAt o a ++ chunksAt (o + chunkSize a) b := by
  induction a generalizing o with
  | nil => simp [chunksAt, chunkSize]
  | cons c a ih => simp [chunksAt, ih, chunkSize, Nat.add_assoc]

/-- The chunks from an offset are the fields, and zeros. -/
structure Fits (o : Nat) (cs : List (Nat × Nat)) (fs : List ReportField) : Prop where
  fields : ∀ f ∈ fs, f ∈ chunksAt o cs
  zeros : ∀ f ∈ chunksAt o cs, f ∈ fs ∨ f.2.2 = 0

theorem Fits.nil (o : Nat) : Fits o [] [] := ⟨by simp, by simp [chunksAt]⟩

theorem Fits.field {o n v : Nat} {cs fs} (h : Fits (o + n) cs fs) : Fits o ((n, v) :: cs) ((o, n, v) :: fs) := by
  constructor
  · intro f hf
    rcases List.mem_cons.1 hf with rfl | hf
    · exact List.mem_cons_self
    · exact List.mem_cons_of_mem _ (h.fields f hf)
  · intro f hf
    rcases List.mem_cons.1 hf with rfl | hf
    · exact .inl List.mem_cons_self
    · exact (h.zeros f hf).imp_left (List.mem_cons_of_mem _)

theorem Fits.pad {o n : Nat} {cs fs} (h : Fits (o + n) cs fs) : Fits o ((n, 0) :: cs) fs := by
  constructor
  · exact fun f hf => List.mem_cons_of_mem _ (h.fields f hf)
  · intro f hf
    rcases List.mem_cons.1 hf with rfl | hf
    · exact .inr rfl
    · exact h.zeros f hf

/-- A field whose value is said in another way. -/
theorem Fits.fieldAs {o n v w : Nat} {cs : List (Nat × Nat)} {fs : List ReportField} (e : v = w)
    (h : Fits (o + n) cs fs) : Fits o ((n, v) :: cs) ((o, n, w) :: fs) := e ▸ h.field

theorem SourceSnapshot.fits (o : Nat) (x : SourceSnapshot) : Fits o x.chunks (x.layout o) := by
  refine Fits.fieldAs (by cases x.enabled <;> cases x.last.isSome <;> rfl) ?_
  repeat' (first | exact Fits.nil _ | refine Fits.field ?_)

theorem WindowSnapshot.fits (o : Nat) (x : WindowSnapshot) : Fits o x.chunks (x.layout o) := by
  refine Fits.fieldAs (by cases x.holder.isSome <;> cases x.takePending <;> cases x.last.isSome <;> rfl) ?_
  refine Fits.field ?_
  cases x.holder
  · refine Fits.field (Fits.field (Fits.field (Fits.field (Fits.pad ?_))))
    repeat' (first | exact Fits.nil _ | refine Fits.field ?_)
  · refine Fits.field (Fits.field (Fits.field (Fits.field (Fits.field (Fits.pad ?_)))))
    repeat' (first | exact Fits.nil _ | refine Fits.field ?_)

theorem OrderResult.fits (r : OrderResult) : Fits 0x18 r.chunks r.layout := by
  cases r
  all_goals repeat' (first
    | exact SourceSnapshot.fits _ _ | exact WindowSnapshot.fits _ _
    | exact Fits.nil _ | refine Fits.field ?_ | refine Fits.pad ?_)

theorem MeterReport.fits (m : MeterReport) : Fits 8 m.chunks m.layout := by
  unfold MeterReport.chunks MeterReport.layout handleChunks handleAt timeAt
  refine Fits.field (Fits.field (Fits.field (Fits.field (Fits.field (Fits.fieldAs ?_ ?_)))))
  · cases m.charges.capped <;> cases m.openLength.isSome <;> rfl
  · repeat' (first | exact Fits.nil _ | refine Fits.field ?_)

theorem Settlement.fits (x : Settlement) : Fits 8 x.chunks x.layout := by
  unfold Settlement.chunks Settlement.layout handleChunks handleAt timeAt
  refine Fits.field (Fits.field (Fits.fieldAs ?_ ?_))
  · unfold Settlement.closeByte
    cases x.charges.capped <;> cases x.lateCancel <;> cases x.withdrawn <;> simp
  · repeat' (first | exact Fits.nil _ | refine Fits.field ?_)

theorem Completion.fits (c : Completion) : Fits 8 c.chunks c.layout := by
  unfold Completion.chunks Completion.layout
  cases c.outcome
  · refine Fits.field (Fits.field (Fits.field (Fits.field (Fits.field (Fits.field (Fits.pad ?_))))))
    exact OrderResult.fits _
  · refine Fits.field (Fits.field (Fits.field (Fits.field (Fits.field (Fits.field (Fits.pad ?_))))))
    exact Fits.nil _

/-- A report's chunks from 0x08 are the fields of its layout, and zeros. -/
theorem ReportBody.fits (last : Option Offender) (r : ReportBody) : Fits 8 (r.chunks last) (r.layout last) := by
  cases r with
  | completion c => exact c.fits
  | meter m => exact m.fits
  | settlement x => exact x.fits
  | stray n =>
    cases last
    all_goals repeat' (first | exact Fits.nil _ | refine Fits.field ?_ | refine Fits.pad ?_)
  | _ =>
    repeat' (first
      | exact SourceSnapshot.fits _ _ | exact Fits.nil _ | refine Fits.field ?_ | refine Fits.pad ?_)

/-- Chunks that end with zeros fit still. -/
theorem Fits.append_pad {o n : Nat} {cs : List (Nat × Nat)} {fs : List ReportField} (h : Fits o cs fs) :
    Fits o (cs ++ [(n, 0)]) fs := by
  constructor
  · exact fun f hf => chunksAt_append o cs _ ▸ List.mem_append_left _ (h.fields f hf)
  · intro f hf
    rw [chunksAt_append, List.mem_append] at hf
    rcases hf with hf | hf
    · exact h.zeros f hf
    · simp only [chunksAt, List.mem_singleton] at hf
      exact .inr (hf ▸ rfl)

theorem OrderResult.chunks_size (r : OrderResult) : chunkSize r.chunks ≤ 104 := by
  cases r
  case defineWindow _ _ _ _ snap =>
    cases h : snap.holder <;>
      simp [OrderResult.chunks, WindowSnapshot.chunks, handleChunks, chunkSize, h]
  all_goals simp [OrderResult.chunks, SourceSnapshot.chunks, handleChunks, chunkSize]

theorem ReportBody.chunks_size (last : Option Offender) (r : ReportBody) :
    chunkSize (r.chunks last) ≤ 120 := by
  cases r with
  | completion c =>
    have h : ∀ x : OrderResult, (x.chunks.map (·.1)).sum ≤ 104 := OrderResult.chunks_size
    cases e : c.outcome with
    | done _ x =>
      have := h x
      simp [ReportBody.chunks, Completion.chunks, chunkSize, e]
      omega
    | refused _ => simp [ReportBody.chunks, Completion.chunks, chunkSize, e]
  | stray n => cases last <;> simp [ReportBody.chunks, chunkSize]
  | _ =>
    simp [ReportBody.chunks, MeterReport.chunks, Settlement.chunks, SourceSnapshot.chunks, handleChunks,
      windowChunks, chunkSize, List.range_succ]

/-- A report entry holds exactly the fields of its layout (R174, Tables 9-8 to 9-15). -/
theorem Report.bytes_layout (r : Report) (lost : Nat) (last : Option Offender) :
    holdsFields (r.bytes lost last) (r.layout lost last) := by
  have hs := r.body.chunks_size last
  have e : r.bytes lost last = chunkBytes
      (((1, r.body.code) :: (2, lost) :: (5, r.created) :: r.body.chunks last) ++
        [(120 - chunkSize (r.body.chunks last), 0)]) := by
    have hc : chunkSize ((1, r.body.code) :: (2, lost) :: (5, r.created) :: r.body.chunks last) =
        8 + chunkSize (r.body.chunks last) := by
      simp only [chunkSize, List.map_cons, List.sum_cons]
      omega
    have hp := padTo_chunks (n := 128)
      (cs := (1, r.body.code) :: (2, lost) :: (5, r.created) :: r.body.chunks last) (by omega)
    rw [hc, show 128 - (8 + chunkSize (r.body.chunks last)) = 120 - chunkSize (r.body.chunks last) by omega]
      at hp
    rw [← hp, Report.bytes, ReportBody.bytes_chunks]
    simp [chunkBytes, b1, Config.entryBytes]
  have f : Fits 0 (((1, r.body.code) :: (2, lost) :: (5, r.created) :: r.body.chunks last) ++
      [(120 - chunkSize (r.body.chunks last), 0)]) (r.layout lost last) :=
    (Fits.field (Fits.field (Fits.field (r.body.fits last)))).append_pad
  rw [e]
  refine holdsFields_chunks ?_ f.fields f.zeros
  simp only [chunkSize, List.cons_append, List.map_cons, List.map_append, List.sum_cons, List.sum_append,
    List.map_nil, List.sum_nil] at hs ⊢
  omega

end Sys2Proof.Machine
end

