-- ==== Sys2Proof/Tests/Slice0.lean ====
section
/-! SUPPORT. Tests: ill-formed commands that WellFormed refuses; for every obligation with hypotheses a
concrete state that meets them, clause by clause; the layouts and figures of the spec's examples. -/

namespace Sys2Proof.Tests

open Sys2Proof.Machine

set_option maxRecDepth 20000
set_option Elab.async false

/-! ### Builders -/

/-- Whether an outcome is a next state with a property. -/
def nextIs (o : Host.Outcome State Fault Refusal) (p : State → Bool) : Bool :=
  match o with
  | .next t => p t
  | _ => false

/-- A record with a field written. -/
def put (e : List Byte) (f : Nat × Nat × Nat) : List Byte :=
  e.take f.1 ++ leBytes f.2.1 f.2.2 ++ e.drop (f.1 + f.2.1)

/-- A record of `n` bytes with fields (offset, size, value). -/
def rec (n : Nat) (fs : List (Nat × Nat × Nat)) : List Byte := fs.foldl put (zeros n)

/-- An order entry of a kind, with tag 0x55. -/
def ord (code : Nat) (fs : List (Nat × Nat × Nat)) : List Byte := rec 128 ((0, 1, code) :: (4, 4, 0x55) :: fs)

/-- A write with every byte enabled. -/
def full (data : List Byte) : Access := .write (data.map fun b => (b, true))

/-- A part in ACTIVE with D = 16, Z = 2048: the ingress region at 0x1000000, the delivery region at 0x2000000,
initiator 1 INGRESS, 2 EGRESS, 3 CONTROL; source 4 enabled and GOOD; window 2 defined; tariff class 1 defined. -/
def active : State :=
  { State.reset with
    path :=
      { PathState.reset 0 with
        ingress := some { base := 0x1000000, size := 48 * 16 * 2048 }
        delivery := some { base := 0x2000000, size := 32 * 16 * 2048 }
        classMap := ((State.reset.path.classMap.set 1 .ingress).set 2 .egress).set 3 .control }
    ctl :=
      { Control.reset with
        act := .active, head := 3, tail := 5, check := 0x01020304
        settings :=
          { d := 16, z := 2048, lmin := 188, preroll := 1000, lineWait := 500, attnEnable := true,
            orderBase := 0x100000, orderCount := 16, reportBase := 0x200000, reportCount := 16 } }
    time :=
      { divisor := 8, prescaler := 6, house := 5000, running := true, rateInterval := 100,
        rateExpiry := some 5000 }
    sources := State.reset.sources.map fun r => { r with slots := List.replicate 16 none }
    windows := State.reset.windows.map fun w => { w with bindings := List.replicate 16 .none } }

/-- Source 4 enabled with tag 0x2A11 and two packets in its ring, GOOD with its silence expiry due. -/
def fed : State :=
  { active with
    sources := active.sources.set 4
      { active.sources[(4 : Fin 48)] with
        enabled := true, tag := 0x2A11, last := some 901, newest := some 5
        slots := ((List.replicate 16 none).set 4 (some { seq := 900, len := 1316 })).set 5
          (some { seq := 901, len := 1316 }) }
    health := active.health.set 4
      { state := .good, strikes := 0, goodRun := 0, silence := some 5000, cause := none } }

/-- Booking 5, of generation 1, of source 4 and window 2, ON_AIR in NONE mode from 4000 to 5000. -/
def aired : Booking :=
  { Booking.reset 1 with
    state := .onAir, main := 4, windows := [2], startS := 4000, endE := 5000, actStart := some 4000
    endExp := some 5000, lineCheck := .done
    tariff :=
      { defined := true, base := 300000, fan := 0, overrun := 0, credit := 0, grace := 0,
        threshold := 0, lateWindow := 3600000 } }

/-- Booking 5 on air and holding window 2, whose take is done and whose last delivered sequence is 900. -/
def live : State :=
  { fed with
    bookings := fed.bookings.set 5 aired
    calendar := fed.calendar.set 2 [{ booking := 5, startS := 4000, endE := 5000 }]
    useCounts := fed.useCounts.set 4 1
    tariffs := fed.tariffs.set 1 aired.tariff
    windows := fed.windows.set 2
      { fed.windows[(2 : Fin 32)] with
        defined := true, tag := 0x0C03, holder := some { index := 5, gen := 1 }, last := some 900
        bindings := (List.replicate 16 .none).set 4 (.source 4 4 900 1316 .main) } }

/-- `s` with booking 5 changed. -/
def booked (f : Booking → Booking) (s : State) : State := s.modBooking 5 f

/-- The order at ring index 3 is being fetched under tag 7, with its answer's entry reserved. -/
def fetching (s : State) : State :=
  { s with
    ctl := { s.ctl with fetching := true }
    poster := { s.poster with reserved := true }
    port := { s.port with
      nextTag := 8
      outstanding := [{ mtag := 7, addr := 0x100180, access := .read 128, purpose := .own (.orderFetch 3) }] } }

/-- A transaction of initiator `id`. -/
def txn (id : Fin 16) (addr : Nat) (access : Access) : Txn := { id, tag := 9, addr, access }

/-- A header of a feed packet with its check word. -/
def header (tag seq len : Nat) : List Byte :=
  let body := rec 30 [(0, 2, tag), (2, 2, seq), (4, 2, len)]
  body ++ checkBytes body

/-! ### WellFormed refuses -/

theorem test_wf_address : (Instr.systemPortTransaction (txn 0 (2 ^ 40) (.read 1))).wf = false := by decide
theorem test_wf_empty : (Instr.systemPortTransaction (txn 0 0 (.read 0))).wf = false := by decide
theorem test_wf_long : (Instr.systemPortTransaction (txn 0 0 (.read 8193))).wf = false := by decide
theorem test_wf_wrap : (Instr.systemPortTransaction (txn 0 (2 ^ 40 - 1) (.read 2))).wf = false := by decide
theorem test_wf_ingressRead : (Instr.ingressWrite (txn 0 0 (.read 4))).wf = false := by decide
theorem test_wf_headerWrite : (Instr.headerRead (txn 0 0 (full (zeros 4)))).wf = false := by decide
theorem test_wf_payloadWrite : (Instr.payloadRead (txn 0 0 (full (zeros 4)))).wf = false := by decide
theorem test_wf_response : (Instr.memoryResponse 0 (.okay (zeros 8193))).wf = false := by decide +kernel
theorem test_wf_settings : (Instr.settingsLoadResponse 0 (.okay (zeros 255))).wf = false := by decide +kernel
theorem test_wf_shortEntry : (Instr.halt 0 ((ord 12 []).take 127)).wf = false := by decide +kernel
theorem test_wf_otherKind : (Instr.tariff 0 (ord 5 [])).wf = false := by decide +kernel
theorem test_wf_knownKind : (Instr.unknownOrderKind 0 (ord 12 [])).wf = false := by decide +kernel
theorem test_wf_good :
    (Instr.tariff 0 (ord 4 [])).wf = true ∧ (Instr.unknownOrderKind 0 (ord 13 [])).wf = true ∧
      (Instr.systemPortTransaction (txn 0 (2 ^ 40 - 1) (.read 1))).wf = true := by decide +kernel

/-! ### RESET and house time -/

theorem test_w_step : State.reset.pending = [] := rfl

theorem test_w_resetAssert : ∃ t, exec .resetAssert (fetching live) = .next t := ⟨_, rfl⟩

theorem test_w_resetRelease :
    { live with resetLine := true }.resetLine = true ∧ { live with resetLine := true }.port.heldOff = [] ∧
      live.resetLine = false := by decide

theorem test_resetRelease :
    nextIs (exec (.resetRelease 15) { State.reset with resetLine := true })
      (fun t => t.path.pageBase == 0xF0000000 && !t.resetLine) = true := by decide +kernel

/-- `live` after its due expiries have been taken: nothing is due. -/
def calm : State :=
  { live with
    time := { live.time with rateExpiry := some 5100 }
    health := live.health.set 4 { live.health[(4 : Fin 48)] with silence := some 5001 }
    bookings := live.bookings.set 5 { aired with endE := 5001, endExp := some 5001 } }

theorem test_w_tick : calm.time.running = true ∧ calm.anyDue = false ∧ live.anyDue = true := by decide +kernel

/-- A tick that finds the rate interval, a silence and an end due takes them at their house time 5000: the
booking closes with its A_e at E, and nothing is left behind 5001. -/
theorem test_houseTick_due :
    nextIs (exec .houseTick live)
      (fun t => t.time.house == 5001 && t.time.rateExpiry == some 5100 &&
        t.health[(4 : Fin 48)].state == .failed && t.bookings[(5 : Fin 256)].state == .free &&
        (t.poster.hold.map fun r => (r.created, r.body.code)) == [(5000, 4), (5000, 3)]) = true := by
  decide +kernel

theorem test_w_houseTime :
    live.time.house ≤ 2 ^ 40 - 1 ∧ live.time.running = true ∧
      live.time.prescaler + 1 < live.time.divisor ∧
      { live.time with prescaler := 7 }.prescaler + 1 = live.time.divisor ∧
      { live.time with house := 2 ^ 40 - 1 }.house ≤ 2 ^ 40 - 1 ∧
      State.reset.time.running = false := by decide

theorem test_houseTick :
    nextIs (exec .houseTick
        { State.reset with
          time := { live.time with house := 2 ^ 40 - 1, rateExpiry := some (2 ^ 40) } })
      (fun t => t.time.house == 2 ^ 40 - 1 && t.time.prescaler == 0) = true := by decide +kernel

theorem test_refclkEdge :
    nextIs (exec .refclkEdge live) (fun t => t.time.prescaler == 7 && t.time.house == 5000) = true := by
  decide +kernel

theorem test_w_rateInterval :
    live.time.rateExpiry = some 5000 ∧ 5000 ≤ live.time.house ∧ live.poster.haltPlaced = false ∧
      ((List.finRange 48).filter fun i =>
        (live.modSource 4 fun r => { r with overRate := 1 }).sources[i].overRate != 0).length + 4 ≤
        live.poster.free := by decide +kernel

theorem test_rateIntervalExpiry :
    nextIs (exec .rateIntervalExpiry (live.modSource 4 fun r => { r with overRate := 1, intervalBytes := 9 }))
      (fun t => t.poster.hold.length == 1 && t.time.rateExpiry == some 5100 &&
        t.sources[(4 : Fin 48)].intervalBytes == 0) = true := by decide +kernel

theorem test_w_houseTimeNeverDecreases : live.timeLaw ∧ ∃ t, exec .houseTick live = .next t :=
  ⟨by decide, _, rfl⟩

theorem test_w_setTime :
    (fetching live).orderArrives 7 3 11 (ord 11 [(8, 8, 2 ^ 40)]) ∧
      shapeOk 11 (ord 11 [(8, 8, 2 ^ 40)]) = true ∧ 2 ^ 40 - 1 < field (ord 11 [(8, 8, 2 ^ 40)]) 8 8 ∧
      (fetching live).orderArrives 7 3 11 (ord 11 [(8, 8, 2 ^ 40 - 1)]) ∧
      field (ord 11 [(8, 8, 2 ^ 40 - 1)]) 8 8 ≤ 2 ^ 40 - 1 ∧ (fetching live).bookings[(5 : Fin 256)].state ≠ .free ∧
      (fetching fed).orderArrives 7 3 11 (ord 11 [(8, 8, 0)]) ∧ shapeOk 11 (ord 11 [(8, 8, 0)]) = true ∧
      ∀ i : Fin 256, (fetching fed).bookings[i].state = .free := by decide +kernel

theorem test_setTime :
    nextIs (exec (.setTime 7 (ord 11 [(8, 8, 100)])) (fetching fed))
      (fun t => t.time.house == 100 && t.health[(4 : Fin 48)].silence == some 100 && t.ctl.head == 4) = true := by
  decide +kernel

/-! ### The system port -/

/-- The port with its stream full. -/
def crowded : State :=
  { live with
    port := { live.port with
      forwarded := List.replicate 16 { txn := txn 0 0 (.read 1), cls := .other, rewrite := none } } }

theorem test_w_forwarded :
    State.reset.holdsOff = false ∧ State.reset.ctl.act = .passive ∧ crowded.holdsOff = true ∧
      16 ≤ crowded.port.forwarded.length ∧
      presents (txn 0 0 (.read 1)) (.systemPortTransaction (txn 0 0 (.read 1))) ∧
      live.decodes (txn 0 0xFFFFFF (.read 1)) .forward := by decide +kernel

/-- The hypotheses on the regions, and an address for each clause of the decode, at the edges of the regions. -/
theorem test_w_decode :
    0 < live.ctl.settings.d ∧ 0 < live.ctl.settings.z ∧
      live.path.ingress = some { base := 0x1000000, size := 48 * 16 * 2048 } ∧
      live.path.delivery = some { base := 0x2000000, size := 32 * 16 * 2048 } ∧
      live.decode (txn 1 0xFFFFFF (full (zeros 2))) .ingress = .refuse .boundary ∧
      live.decode (txn 1 0x117FFFF (full (zeros 2))) .ingress = .refuse .boundary ∧
      live.decode (txn 1 0x1FFFFFF (.read 2)) .egress = .refuse .boundary ∧
      live.decode (txn 1 0x20FFFFF (.read 2)) .egress = .refuse .boundary ∧
      live.decode (txn 1 0xFFFFFF (full (zeros 1))) .other = .forward ∧
      live.decode (txn 1 0x1180000 (.read 1)) .egress = .forward ∧
      live.decode (txn 1 0x1000000 (full (zeros 1))) .ingress = .check 0 0 0 ∧
      live.decode (txn 1 0x117FFFF (full (zeros 1))) .ingress = .check 47 15 2047 ∧
      live.decode (txn 1 0x10007FF (full (zeros 2))) .ingress = .refuse .span ∧
      live.decode (txn 1 0x1000000 (full (zeros 1))) .egress = .refuse .ingressWrite ∧
      live.decode (txn 1 0x1000000 (.read 1)) .egress = .refuse .ingressRead ∧
      live.decode (txn 1 0x10007FF (.read 2)) .control = .forward ∧
      live.decode (txn 1 0x2000000 (full (zeros 1))) .egress = .refuse .deliveryWrite ∧
      live.decode (txn 1 0x2000000 (.read 1)) .control = .refuse .deliveryRead ∧
      live.decode (txn 1 0x20007FF (.read 2)) .egress = .refuse .span ∧
      live.decode (txn 1 0x2000000 (.read 2048)) .egress = .translate 0 0 0 ∧
      live.decode (txn 1 0x20FFFFF (.read 1)) .egress = .translate 31 15 2047 := by decide +kernel

theorem test_w_refused :
    live.decodes (txn 12 0x2000000 (full (zeros 1))) (.refuse .deliveryWrite) ∧
      live.path.stray.outstanding = false := by decide +kernel

/-- 1.8.2: the first refusal raises a STRAY notice, the second is only counted. -/
theorem test_stray :
    nextIs (exec (.systemPortTransaction (txn 12 0x2000000 (full (zeros 1)))) live)
      (fun t => t.path.stray.outstanding && t.poster.hold.length == 1 &&
        nextIs (exec (.systemPortTransaction (txn 12 0x2000800 (full (zeros 1)))) t)
          (fun u => u.path.stray.counts.deliveryWrite == 2 && u.poster.hold.length == 1 &&
            u.port.answers.length == 2)) = true := by decide +kernel

/-! ### Arrivals -/

/-- A commit of a header to slot `k` of source 4. -/
def commit (k tag seq len : Nat) : Txn := txn 1 (0x1000000 + (4 * 16 + k) * 2048) (full (header tag seq len))

theorem test_w_judge :
    let g := live.ctl.settings
    let h := live.health[(4 : Fin 48)]
    let r := live.sources[(4 : Fin 48)]
    let j := fun k tag seq len => judgeArrival g h r k (some (header tag seq len))
    judgeArrival g { h with state := .failed } r 6 none = .voided .held ∧
      judgeArrival g h r 6 none = .voided .torn ∧
      judgeArrival g h r 6 (some (put (header 0x2A11 902 188) (30, 2, 0))) = .voided .check ∧
      j 6 0x2A12 902 188 = .voided .tag ∧ j 6 0x2A11 902 187 = .voided .length ∧
      j 6 0x2A11 902 2017 = .voided .length ∧ j 7 0x2A11 902 188 = .voided .misplaced ∧
      j 5 0x2A11 901 188 = .voided .stale ∧ j 5 0x2A11 (901 + 32768) 188 = .voided .stale ∧
      j 4 0x2A11 (901 + 32767) 188 = .accepted (901 + 32767) 188 ∧
      j 6 0x2A11 902 2016 = .accepted 902 2016 ∧
      judgeArrival g h { r with allowance := 1000, intervalBytes := 700 } 6
        (some (header 0x2A11 902 301)) = .voided .overRate ∧
      judgeArrival g h { r with allowance := 1000, intervalBytes := 700 } 6
        (some (header 0x2A11 902 300)) = .accepted 902 300 := by decide +kernel

theorem test_w_class :
    classifyWrite 32 [(0, true)] = .payload ∧
      classifyWrite 0 ((zeros 32).map fun b => (b, true)) = .commit ∧
      classifyWrite 0 ((zeros 31).map fun b => (b, true)) = .torn ∧
      classifyWrite 0 (((zeros 32).map fun b => (b, true)).set 31 (0, false)) = .torn ∧
      classifyWrite 31 ((zeros 40).map fun b => (b, true)) = .torn := by decide +kernel

theorem test_w_accepted :
    live.decodes (commit 6 0x2A11 902 188) (.check 4 6 0) ∧
      (commit 6 0x2A11 902 188).access = .write ((header 0x2A11 902 188).map fun b => (b, true)) ∧
      classifyWrite 0 ((header 0x2A11 902 188).map fun b => (b, true)) = .commit ∧
      live.sources[(4 : Fin 48)].enabled = true ∧
      judgeArrival live.ctl.settings live.health[(4 : Fin 48)] live.sources[(4 : Fin 48)] 6
        (some (commitHeader ((header 0x2A11 902 188).map fun b => (b, true)))) = .accepted 902 188 ∧
      6 < live.sources[(4 : Fin 48)].slots.length := by decide +kernel

theorem test_ingressWrite :
    nextIs (exec (.ingressWrite (commit 7 0x2A11 903 1316)) live)
      (fun t => t.sources[(4 : Fin 48)].gaps == 1 && t.sources[(4 : Fin 48)].newest == some 7 &&
        t.health[(4 : Fin 48)].state == .suspect && t.poster.hold.length == 1 &&
        t.port.forwarded.length == 1) = true := by decide +kernel

theorem test_w_notJudged :
    live.decodes (txn 1 (0x1000000 + (4 * 16 + 8) * 2048 + 32) (full (zeros 16))) (.check 4 8 32) ∧
      classifyWrite 32 ((zeros 16).map fun b => (b, true)) = .payload ∧
      live.decodes (txn 1 (0x1000000 + (5 * 16 + 8) * 2048) (full (zeros 16))) (.check 5 8 0) ∧
      live.sources[(5 : Fin 48)].enabled = false ∧
      judgeArrival live.ctl.settings live.health[(4 : Fin 48)] live.sources[(4 : Fin 48)] 5
        (some (commitHeader ((header 0x2A11 901 188).map fun b => (b, true)))) = .voided .stale := by
  decide +kernel

theorem test_w_voided :
    live.decodes (commit 6 0x2A12 902 188) (.check 4 6 0) ∧
      classifyWrite 0 ((header 0x2A12 902 188).map fun b => (b, true)) = .commit ∧
      judgeArrival live.ctl.settings live.health[(4 : Fin 48)] live.sources[(4 : Fin 48)] 6
        (some (commitHeader ((header 0x2A12 902 188).map fun b => (b, true)))) = .voided .tag ∧
      live.decodes (txn 1 (0x1000000 + (4 * 16 + 8) * 2048) (full (zeros 16))) (.check 4 8 0) ∧
      classifyWrite 0 ((zeros 16).map fun b => (b, true)) = .torn ∧
      judgeArrival live.ctl.settings live.health[(4 : Fin 48)] live.sources[(4 : Fin 48)] 8 none =
        .voided .torn := by decide +kernel

/-! ### Reads of a window -/

/-- The read of `n` bytes at a slot and offset of window 2 by the EGRESS initiator. -/
def windowRead (k off n : Nat) : Txn := txn 2 (0x2000000 + (2 * 16 + k) * 2048 + off) (.read n)

/-- Window 2 with changes. -/
def windowed (f : Window → Window) (s : State) : State :=
  { s with windows := s.windows.set 2 (f s.windows[(2 : Fin 32)]) }

theorem test_w_decision :
    let w := live.windows[(2 : Fin 32)]
    fed.windows[(2 : Fin 32)].holder = none ∧ w.holder = some { index := 5, gen := 1 } ∧
      { live with health := State.reset.health }.usableLegs 5 = [] ∧
      live.usableLegs 5 = [(.main, 4)] ∧ { w with takePending := true }.takePending = true ∧
      (live.modSource 4 Source.clearBaseline).sources[(4 : Fin 48)].newest = none ∧
      live.sources[(4 : Fin 48)].newest = some 5 ∧ live.sources[(4 : Fin 48)].last = some 901 ∧
      w.takePending = false ∧ live.slotOf 4 5 = some { seq := 901, len := 1316 } ∧
      newerThan 901 w.last = true ∧ newerThan 900 w.last = false ∧ live.slotOf 4 6 = none := by
  decide +kernel

theorem test_w_deliver :
    live.decodes (windowRead 5 0 32) (.translate 2 5 0) ∧
      live.headerDecision live.windows[(2 : Fin 32)] 5 =
        .deliver live.windows[(2 : Fin 32)] .main 4 5 { seq := 901, len := 1316 } ∧
      live.windows[(2 : Fin 32)].holder = some { index := 5, gen := 1 } ∧
      live.path.ingress = some { base := 0x1000000, size := 48 * 16 * 2048 } ∧
      5 < live.windows[(2 : Fin 32)].bindings.length := by decide +kernel

theorem test_w_fill :
    fed.decodes (windowRead 5 0 32) (.translate 2 5 0) ∧
      fed.headerDecision fed.windows[(2 : Fin 32)] 5 = .fill fed.windows[(2 : Fin 32)] .unrouted ∧
      live.headerDecision live.windows[(2 : Fin 32)] 4 = .fill live.windows[(2 : Fin 32)] .underrun ∧
      live.headerDecision live.windows[(2 : Fin 32)] 6 = .fill live.windows[(2 : Fin 32)] .void ∧
      { live.windows[(2 : Fin 32)] with fillRun := 14 }.fillRun + 1 < live.ctl.settings.d ∧
      live.ctl.settings.d ≤ { live.windows[(2 : Fin 32)] with fillRun := 15 }.fillRun + 1 := by decide +kernel

theorem test_headerRead_realign :
    nextIs (exec (.headerRead (windowRead 6 0 32)) (windowed (fun w => { w with fillRun := 15 }) live))
      (fun t => t.windows[(2 : Fin 32)].takePending && t.windows[(2 : Fin 32)].counters.realigns == 1 &&
        t.port.answers.length == 1 && t.bookings[(5 : Fin 256)].meter.fills == 1) = true := by decide +kernel

theorem test_w_payload :
    live.decodes (windowRead 4 1 64) (.translate 2 4 1) ∧
      live.windows[(2 : Fin 32)].bindings[4]? = some (.source 4 4 900 1316 .main) ∧
      live.windows[(2 : Fin 32)].bindings[6]? = some .none := by decide +kernel

theorem test_payloadRead :
    nextIs (exec (.payloadRead (windowRead 4 32 64)) live)
      (fun t => (t.port.forwarded.map fun f => f.txn.addr) == [0x1000000 + (4 * 16 + 4) * 2048 + 32]) = true := by
  decide +kernel

/-! ### The memory port and the watched words -/

/-- A forwarded write of the order tail from CONTROL, and a status write of the part's own, both waiting. -/
def tailWrite : Forwarded :=
  { txn := txn 3 0x200 (full [6, 0, 0, 0]), cls := .control, rewrite := none }
def ownWord : OwnTxn := { purpose := .orderHead 3, addr := 0x208, access := full (zeros 4) }
def both : State :=
  { live with port := { live.port with forwarded := [tailWrite], own := [ownWord] } }

theorem test_w_issue :
    live.port.forwarded = [] ∧ live.port.own = [] ∧ both.port.forwarded = [tailWrite] ∧
      both.port.lastServed = .own ∧ both.port.own = [ownWord] ∧
      { both.port with lastServed := .forwarded }.lastServed = .forwarded ∧
      crowded.port.heldOff = [] ∧ 16 ≤ crowded.port.forwarded.length ∧
      { live.port with heldOff := [txn 0 0 (.read 1)] }.heldOff = [txn 0 0 (.read 1)] ∧
      live.resetLine = false ∧ live.port.forwarded.length < 16 ∧ live.port.ownWaiting = [] ∧
      live.port.own.length < 8 ∧
      8 ≤ { live.port with own := List.replicate 8 ownWord }.own.length ∧
      { live.port with ownWaiting := [ownWord] }.ownWaiting = [ownWord] := by decide +kernel

theorem test_memoryPortIssue :
    nextIs (exec .memoryPortIssue both)
      (fun t => t.ctl.tail == 6 && t.port.lastServed == .forwarded && t.port.own.length == 1 &&
        nextIs (exec .memoryPortIssue t)
          (fun u => u.port.own.isEmpty && (u.port.outstanding.map fun o => o.mtag) == [0, 1])) = true := by
  decide +kernel

theorem test_ownTrafficPlace :
    nextIs (exec .ownTrafficPlace { live with port := { live.port with ownWaiting := [ownWord] } })
      (fun t => t.port.own == [ownWord] && t.port.ownWaiting.isEmpty) = true := by decide +kernel

theorem test_w_handedOn :
    live.path.pageBase = 0 ∧ tailWrite.txn.addr = live.path.pageBase + WatchedWord.orderTail.offset ∧
      tailWrite.txn.access = .write ([6, 0, 0, 0].map fun b => (b, true)) ∧
      (([6, 0, 0, 0] : List Byte).map fun b => (b, true)).length = 4 ∧
      (∃ b ∈ [((0 : Byte), true), (0, false), (0, true), (0, true)], b.2 = false) ∧
      (∀ w : WatchedWord, 0x204 + 4 < 0 + w.offset + 4 ∨ 0 + w.offset < 0x204) ∧
      0x100 ≤ live.path.pageBase + 0x100 ∧ live.path.pageBase + 0x304 ≤ 0x100 + 0x204 := by
  refine ⟨by decide, by decide, by decide, by decide, by decide, ?_, by decide, by decide⟩
  intro w
  cases w <;> decide

/-- A write from the START word on that covers START and the order tail, and a byte less of the latter. -/
def longWrite (n : Nat) : Forwarded :=
  { txn := txn 3 0x100 (full ((put (zeros 0x110) (0x100, 1, 6)).take n)), cls := .control, rewrite := none }

theorem test_handOffs_two :
    (live.handOffs (longWrite 0x104)).ctl.tail = 6 ∧ (live.handOffs (longWrite 0x103)).ctl.tail = 5 := by
  decide +kernel

/-- The part with two translated reads and one forwarded read at memory. -/
def atMemory : State :=
  { live with
    port := { live.port with
      outstanding :=
        [{ mtag := 7, addr := 0, access := .read 32,
           purpose := .system 2 9 (some { tag := 0x0C03, seq := 700, disc := true, backup := false }) },
         { mtag := 8, addr := 0, access := .read 4, purpose := .system 3 1 none }] } }

theorem test_w_memoryResponse :
    atMemory.port.find 6 = none ∧
      (atMemory.port.find 7).map (·.purpose) =
        some (.system 2 9 (some { tag := 0x0C03, seq := 700, disc := true, backup := false })) ∧
      (atMemory.port.find 8).map (·.purpose) = some (.system 3 1 none) ∧
      32 ≤ (header 0x2A11 1041 1316).length := by decide +kernel

/-- 7.10.1: the header of sequence 1041 is returned with tag 0x0C03, sequence 700, DISCONTINUITY and a fresh
check word. -/
theorem test_memoryResponse :
    nextIs (exec (.memoryResponse 7 (.okay (header 0x2A11 1041 1316))) atMemory)
      (fun t => t.port.answers ==
        [{ id := 2, tag := 9,
           resp := .okay
             (let b := rec 30 [(0, 2, 0x0C03), (2, 2, 700), (4, 2, 1316), (6, 2, 2)]
              b ++ leBytes 2 (xor16 (headerBody b)).toNat) }]) = true := by decide +kernel

/-- The ring of 2.6.1: 16 entries, head 2, consumer 3. -/
def ringAt (head consumer : Nat) (s : State) : State :=
  { s with poster := { s.poster with head, consumer } }

theorem test_w_watched :
    State.reset.ctl.act = .passive ∧ live.ctl.act ≠ .passive ∧ State.reset.resetLine = false ∧
      live.ctl.act = .active ∧ (15#32).toNat < live.ctl.settings.orderCount ∧
      live.ctl.settings.orderCount ≤ (16#32).toNat ∧ InitiatorClass.other ≠ .control ∧
      ((10 : Int) < 16 ∧ ((10 : Int) - 3) % 16 ≤ (2 - 3) % 16) ∧
      ¬((4 : Int) < 16 ∧ ((4 : Int) - 10) % 16 ≤ (3 - 10) % 16) ∧
      ((9 : Int) - 3) % 16 < (10 - 3) % 16 ∧ ((10 : Int) - 3) % 16 ≤ (10 - 3) % 16 := by decide

/-- 2.6.1: consumer 10 is accepted, and consumer 4 then ignored with a BAD_INDEX notice. -/
theorem test_reportConsumerWrite :
    nextIs (exec (.reportConsumerWrite .control 10) (ringAt 2 3 live))
      (fun t => t.poster.consumer == 10 && t.poster.hold.isEmpty) = true ∧
    nextIs (exec (.reportConsumerWrite .control 4) (ringAt 3 10 live))
      (fun t => t.poster.consumer == 10 && t.poster.hold.length == 1) = true := by decide +kernel

theorem test_orderTailWrite :
    nextIs (exec (.orderTailWrite .control 16) live)
      (fun t => t.ctl.tail == 5 && t.poster.hold.length == 1) = true ∧
    nextIs (exec (.orderTailWrite .other 6) live) (fun t => t.ctl.tail == 5) = true := by decide +kernel

theorem test_startWrite :
    nextIs (exec (.startWrite 77) State.reset)
      (fun t => t.ctl.act == .loading && t.ctl.startValue == 77 &&
        (t.port.own.map fun x => x.access) == [.read 256]) = true := by decide +kernel

/-! ### Activation -/

/-- A settings block with D = 16, Z = 2048, regions at 16 MiB and 32 MiB, rings of 16 entries, divisor 5. -/
def rawBlock : List Byte :=
  rec 256 [(0, 2, 16), (2, 2, 2048), (4, 2, 16), (6, 2, 16), (8, 8, 0x1000000), (0x10, 8, 0x2000000),
    (0x18, 8, 0x100000), (0x20, 8, 0x200000), (0x28, 8, 1000), (0x30, 3, 5), (0x34, 2, 100),
    (0x36, 2, 188), (0x38, 4, 1000), (0x3C, 4, 500), (0x41, 1, 1), (0x42, 1, 2), (0x43, 1, 3), (0x50, 1, 1)]

/-- The block with its check field. -/
def block : List Byte := put rawBlock (0xF8, 4, (settingsCheck rawBlock).toNat)

/-- A changed block with its check field. -/
def blockWith (f : Nat × Nat × Nat) : List Byte :=
  put (put rawBlock f) (0xF8, 4, (settingsCheck (put rawBlock f)).toNat)

/-- LOADING, with the load outstanding under tag 7. -/
def loading (start : Word32) : State :=
  { State.reset with
    ctl := { Control.reset with act := .loading, startValue := start }
    port := { Port.reset with
      outstanding := [{ mtag := 7, addr := 0, access := .read 256, purpose := .own .settingsLoad }] } }

/-- The validation of a changed block under its own check. -/
def verdict (f : Nat × Nat × Nat) : Option RejectReason :=
  validateSettings (blockWith f) (settingsCheck (blockWith f)) 0

theorem test_w_validation :
    validateSettings block (settingsCheck block) 0 = none ∧
      validateSettings block (settingsCheck block + 1) 0 = some .check ∧
      verdict (0, 2, 17) = some .geometry ∧ verdict (0x38, 4, 600001) = some .range ∧
      verdict (0x38, 4, 600000) = none ∧ verdict (8, 8, 0x1100000) = some .align ∧
      verdict (0x18, 8, 0x1000000) = some .overlap := by decide +kernel

/-- The edges of the groups of Table 2-3. -/
theorem test_w_groups :
    (settingsFields block).geometryOk = true ∧ (settingsFields block).alignOk = true ∧
      (settingsFields block).overlapOk 0 = true ∧ (settingsFields block).overlapOk 0x1000 = true ∧
      (settingsFields block).overlapOk 0x117F000 = false ∧ verdict (6, 2, 8) = some .geometry ∧
      verdict (6, 2, 48) = some .geometry ∧ verdict (0x36, 2, 2016) = none ∧
      verdict (0x36, 2, 2017) = some .range ∧ verdict (0x20, 8, 0x100000) = some .overlap ∧
      verdict (0x20, 8, 0x100800) = none := by decide +kernel

theorem test_w_rejected :
    (loading 0).port.ownPurpose 7 = some .settingsLoad ∧ (loading 0).ctl.act = .loading ∧
      validateSettings block (loading 0).ctl.startValue (loading 0).path.pageBase = some .check := by
  decide +kernel

theorem test_settingsRejected :
    nextIs (exec (.settingsLoadResponse 7 .fault) (loading 0))
      (fun t => t.ctl.act == .passive && t.attn &&
        (t.port.own.map fun x => x.access) == [full ([2, 6, 0, 0] ++ zeros 4)]) = true := by decide +kernel

theorem test_w_activated :
    (loading (settingsCheck block)).port.ownPurpose 7 = some .settingsLoad ∧
      (loading (settingsCheck block)).ctl.act = .loading ∧
      validateSettings block (loading (settingsCheck block)).ctl.startValue 0 = none := by decide +kernel

theorem test_activated :
    nextIs (exec (.settingsLoadResponse 7 (.okay block)) (loading (settingsCheck block)))
      (fun t => t.ctl.act == .active && t.time.divisor == 8 && t.time.house == 1000 &&
        t.port.own.length == 3 && t.path.classMap[(3 : Fin 16)] == .control) = true := by decide +kernel

/-! ### Orders -/

theorem test_w_orderTake :
    live.ctl.act = .active ∧ live.ctl.fetching = false ∧ live.ctl.head ≠ live.ctl.tail ∧
      live.settlements = [] ∧ live.poster.used < 16 ∧
      16 ≤ { live.poster with
        hold := List.replicate 16 { created := 0, body := .rate { src := 0, overRate := 1, total := 0, allowance := 0 } }
        }.used ∧ State.reset.ctl.act ≠ .active := by decide +kernel

theorem test_orderTake :
    nextIs (exec .orderTake live)
      (fun t => t.ctl.fetching && t.poster.reserved &&
        (t.port.own.map fun x => x.addr) == [0x100000 + 3 * 128]) = true := by decide +kernel

theorem test_w_faulted :
    (fetching live).port.ownPurpose 7 = some (.orderFetch 3) ∧ (fetching live).ctl.fetching = true ∧
      (fetching live).poster.reserved = true ∧ (fetching live).orderArrives 7 3 0 (ord 0 []) ∧
      (fetching live).orderArrives 7 3 13 (ord 13 []) ∧
      (fetching live).orderArrives 7 3 2 (ord 2 [(127, 1, 1)]) ∧
      fieldByte 2 (ord 2 [(127, 1, 1)]) 127 = false ∧ byteAt (ord 2 [(127, 1, 1)]) 127 ≠ 0 := by
  decide +kernel

theorem test_orderFetchFault :
    nextIs (exec (.orderFetchFault 7) (fetching live))
      (fun t => t.ctl.head == 4 && !t.ctl.fetching && !t.poster.reserved &&
        (t.poster.hold.map fun r => r.body) ==
          [.completion { kind := 0, tag := 0, index := 3, outcome := .refused .memory }]) = true := by
  decide +kernel

theorem test_unknownOrderKind :
    nextIs (exec (.unknownOrderKind 7 (ord 13 [])) (fetching live))
      (fun t => (t.poster.hold.map fun r => r.body) ==
        [.completion { kind := 13, tag := 0x55, index := 3, outcome := .refused .malformed }]) = true := by
  decide +kernel

/-- The answer an order gets from the part in state `s`. -/
def replyOf (c : Instr) (s : State) : Option OrderOutcome :=
  match exec c s with
  | .next t => match t.poster.hold.getLast? with
    | some { created := _, body := .completion x } => some x.outcome
    | _ => none
  | _ => none

/-- A DEFINE_SOURCE entry. -/
def defineSource (src enable tag silence mode : Nat) : List Byte :=
  ord 1 [(8, 1, src), (9, 1, enable), (0xA, 2, tag), (0xC, 4, silence), (0x10, 1, mode), (0x11, 1, 3),
    (0x12, 1, 8)]

theorem test_w_defineSource :
    (fetching live).orderArrives 7 3 1 (defineSource 48 1 1 10 0) ∧
      shapeOk 1 (defineSource 48 1 1 10 0) = true ∧ sourceOrder? (defineSource 48 1 1 10 0) = none ∧
      sourceOrder? (defineSource 47 1 0 10 0) = none ∧
      (sourceOrder? (defineSource 4 0 0x2A11 10 0)).map (·.src) = some 4 ∧
      0 < (fetching live).useCounts[(4 : Fin 48)] ∧ (fetching fed).useCounts[(4 : Fin 48)] = 0 ∧
      (sourceOrder? (defineSource 47 1 1 9 1)).map (·.enable) = some true := by decide +kernel

theorem test_defineSource :
    replyOf (.defineSource 7 (defineSource 4 0 0x2A11 10 0)) (fetching live) = some (.refused .inUse) ∧
    nextIs (exec (.defineSource 7 (defineSource 47 1 7 9 1)) (fetching live))
      (fun t => t.sources[(47 : Fin 48)].silenceLimit == 10 &&
        t.health[(47 : Fin 48)] ==
          { state := .absent, strikes := 0, goodRun := 0, silence := some 5010, cause := none }) = true := by
  decide +kernel

/-- Source 4 FAILED by silence in LATCHED mode. -/
def failed (s : State) : State :=
  { s with
    health := s.health.set 4
      { state := .failed, strikes := 0, goodRun := 0, silence := none, cause := some .silent } }

theorem test_w_clear :
    (fetching live).orderArrives 7 3 2 (ord 2 [(8, 1, 48)]) ∧ shapeOk 2 (ord 2 [(8, 1, 48)]) = true ∧
      48 ≤ field (ord 2 [(8, 1, 48)]) 8 1 ∧ field (ord 2 [(8, 1, 4)]) 8 1 = (4 : Fin 48).val ∧
      live.health[(4 : Fin 48)].state ≠ .failed ∧ (failed live).health[(4 : Fin 48)].state = .failed ∧
      (failed live).sources[(4 : Fin 48)].faultMode = .latched := by decide +kernel

theorem test_clear :
    replyOf (.clear 7 (ord 2 [(8, 1, 4)])) (fetching live) = some (.refused .wrongState) ∧
      replyOf (.clear 7 (ord 2 [(8, 1, 4)])) (fetching (failed live)) =
        some (.done false (.clear 4 (some .silent))) := by decide +kernel

theorem test_w_health :
    (Health.entered 0 10).state = .absent ∧ live.health[(4 : Fin 48)].state = .good ∧
      { Health.reset with state := .suspect }.state = .suspect ∧
      (failed live).health[(4 : Fin 48)].state = .failed ∧
      { live.sources[(4 : Fin 48)] with faultMode := .recovering }.faultMode = .recovering ∧
      live.health[(4 : Fin 48)].silence = some 5000 ∧ 5000 ≤ live.time.house ∧
      State.reset.health[(4 : Fin 48)].silence = none := by decide +kernel

theorem test_silenceExpiry :
    nextIs (exec (.silenceExpiry 4) live)
      (fun t => t.health[(4 : Fin 48)].cause == some .silent && t.health[(4 : Fin 48)].silence == none &&
        t.bookings[(5 : Fin 256)].meter.openSpan == some 5000 && t.poster.hold.length == 1) = true := by
  decide +kernel

theorem test_w_healthChange :
    live.health[(4 : Fin 48)].state = (Health.rearm live.health[(4 : Fin 48)] 9 live.sources[(4 : Fin 48)]).state ∧
      live.health[(4 : Fin 48)].state ≠ Health.reset.state := by decide +kernel

/-! ### Legs and spans -/

/-- Booking 5 in SWITCH mode with backup 6, revert set, on the given leg. -/
def switched (l : Leg) (s : State) : State :=
  { booked (fun b => { b with mode := .switch, backup := some 6, revert := true, wtr := 30 }) s with
    legs := s.legs.set 5 (some l)
    health := s.health.set 6 { Health.reset with state := .good } }
def onMain : Leg := { active := some .main, forced := .auto, wtrExp := none }
def onBackup : Leg := { active := some .backup, forced := .auto, wtrExp := none }

theorem test_w_legRules :
    (switched onMain live).legs[(5 : Fin 256)] = some onMain ∧
      (switched onMain (failed live)).available 4 = false ∧
      (switched onMain (failed live)).backupAvailable (some 6) = true ∧
      (switched onBackup live).legs[(5 : Fin 256)] = some onBackup ∧
      (switched onBackup live).bookings[(5 : Fin 256)].revert = true ∧
      (switched onBackup live).health[(4 : Fin 48)].state = .good ∧
      0 < (switched onBackup live).bookings[(5 : Fin 256)].wtr ∧
      (switched onBackup (failed live)).health[(4 : Fin 48)].state ≠ .good := by decide +kernel

/-- The usable legs of booking 5, mode by mode (R135). -/
theorem test_w_usableLegs :
    live.usableLegs 5 = [(.main, 4)] ∧
      (booked (fun b => { b with mode := .merge }) (switched onMain live)).usableLegs 5 =
        [(.main, 4), (.backup, 6)] ∧
      (booked (fun b => { b with mode := .merge }) (switched onMain (failed live))).usableLegs 5 =
        [(.backup, 6)] ∧
      (switched onMain live).usableLegs 5 = [(.main, 4)] ∧
      (switched onBackup live).usableLegs 5 = [(.backup, 6)] ∧
      (switched { onMain with active := none } live).usableLegs 5 = [] ∧
      { switched onMain live with legs := State.reset.legs }.usableLegs 5 = [] := by decide +kernel

/-- A FORCE_LEG entry for booking 5. -/
def forceLeg (gen forced : Nat) : List Byte := ord 3 [(8, 1, 5), (9, 1, gen), (0xA, 1, forced)]

theorem test_w_forceLeg :
    (fetching live).orderArrives 7 3 3 (forceLeg 1 3) ∧ shapeOk 3 (forceLeg 1 3) = true ∧
      3 ≤ field (forceLeg 1 3) 0x0A 1 ∧ forcedLegOf? (field (forceLeg 1 2) 0x0A 1) = some .backup ∧
      live.bookings[(5 : Fin 256)].gen ≠ (orderHandle (forceLeg 2 2)).gen ∧
      live.bookings[(orderHandle (forceLeg 1 2)).index].gen = (orderHandle (forceLeg 1 2)).gen ∧
      live.bookings[(5 : Fin 256)].mode ≠ .switch ∧
      (switched onMain live).bookings[(5 : Fin 256)].mode = .switch ∧
      (switched onMain live).bookings[(5 : Fin 256)].state = .onAir := by decide +kernel

theorem test_forceLeg :
    replyOf (.forceLeg 7 (forceLeg 1 2)) (fetching (switched onMain live)) =
        some (.done false (.forceLeg { index := 5, gen := 1 } .backup (some .backup))) ∧
      replyOf (.forceLeg 7 (forceLeg 1 2)) (fetching live) = some (.refused .wrongState) := by decide +kernel

theorem test_w_waitToRestore :
    let s := switched { onBackup with wtrExp := some 5000 } live
    s.legs[(5 : Fin 256)] = some { onBackup with wtrExp := some 5000 } ∧ 5000 ≤ s.time.house ∧
      live.legs[(5 : Fin 256)] = none := by decide +kernel

theorem test_waitToRestore :
    nextIs (exec (.waitToRestoreExpiry 5) (switched { onBackup with wtrExp := some 5000 } live))
      (fun t => t.activeOf 5 == some .main && t.bookings[(5 : Fin 256)].meter.legSwitches == 1 &&
        t.poster.hold.length == 1) = true := by decide +kernel

theorem test_w_spans :
    live.bookings[(5 : Fin 256)].mode = .none ∧ live.deliverable 5 = true ∧
      (failed live).deliverable 5 = false ∧ live.bookings[(5 : Fin 256)].meter.openSpan = none ∧
      (switched onMain live).bookings[(5 : Fin 256)].mode = .switch ∧
      fed.bookings[(5 : Fin 256)].state = .free ∧
      (booked (fun b => { b with meter := b.meter.openAt 4500 }) live).bookings[(5 : Fin 256)].meter.openSpan =
        some 4500 := by decide +kernel

/-! ### Tariffs and bookings -/

/-- A TARIFF entry with base rate `base` for a class. -/
def tariff (cls base : Nat) : List Byte := ord 4 [(8, 1, cls), (0xC, 4, base), (0x24, 4, 86400000)]

theorem test_w_tariff :
    (fetching live).orderArrives 7 3 4 (tariff 15 1000000) ∧ shapeOk 4 (tariff 15 1000000) = true ∧
      field (tariff 15 1000000) 8 1 ≤ 15 ∧ field (tariff 15 1000000) 0xC 4 ≤ 1000000 ∧
      field (tariff 15 1000000) 0x24 4 ≤ 86400000 ∧ ¬field (tariff 16 0) 8 1 ≤ 15 ∧
      ¬field (tariff 0 1000001) 0xC 4 ≤ 1000000 := by decide +kernel

theorem test_tariff :
    nextIs (exec (.tariff 7 (tariff 15 1000000)) (fetching live))
      (fun t => t.tariffs[(15 : Fin 16)].base == 1000000 && t.tariffs[(15 : Fin 16)].defined) = true ∧
    replyOf (.tariff 7 (tariff 0 1000001)) (fetching live) = some (.refused .range) := by decide +kernel

/-- A BOOK entry in NONE mode: class 1, a main source, one window, S and E. -/
def book (main win startS endE : Nat) : List Byte :=
  ord 5 [(8, 1, 1), (9, 1, main), (0xA, 1, 255), (0xE, 1, 1), (0x10, 1, win), (0x28, 8, startS), (0x30, 8, endE)]

theorem test_w_bookRanges :
    (bookOrder? (book 4 31 0 86400000)).isSome = true ∧ (bookOrder? (book 4 32 0 1)) = none ∧
      (bookOrder? (book 48 0 0 1)) = none ∧ (bookOrder? (book 4 0 1 1)) = none ∧
      (bookOrder? (book 4 0 0 86400001)) = none := by decide +kernel

/-- A refusal for each of the six checks, in order, and the intervals that meet end to start. -/
theorem test_book_checks :
    replyOf (.book 7 (book 48 2 5000 6000)) (fetching live) = some (.refused .range) ∧
      replyOf (.book 7 (book 4 2 5000 6000)) (fetching fed) = some (.refused .noTariff) ∧
      replyOf (.book 7 (book 7 2 5000 6000)) (fetching live) = some (.refused .noSource) ∧
      replyOf (.book 7 (book 4 3 5000 6000)) (fetching live) = some (.refused .noWindow) ∧
      replyOf (.book 7 (book 4 2 4000 5000)) (fetching live) = some (.refused .tooLate) ∧
      replyOf (.book 7 (book 4 2 6000 7000))
        (fetching { live with bookings := Vector.replicate 256 aired }) = some (.refused .tableFull) ∧
      replyOf (.book 7 (book 4 2 5000 7000)) (fetching { live with time := { live.time with house := 4999 } }) =
        some (.done false (.book { index := 0, gen := 1 } .preroll 5000 7000 0 0)) ∧
      replyOf (.book 7 (book 4 2 4999 7000)) (fetching { live with time := { live.time with house := 4998 } }) =
        some (.refused .conflict) := by decide +kernel

theorem test_w_bookChecks :
    (fetching live).orderArrives 7 3 5 (book 4 2 5000 6000) ∧ shapeOk 5 (book 4 2 5000 6000) = true ∧
      live.tariffs[(1 : Fin 16)].defined = true ∧ fed.tariffs[(1 : Fin 16)].defined = false ∧
      live.sources[(4 : Fin 48)].enabled = true ∧ live.windows[(2 : Fin 32)].defined = true ∧
      live.windows[(3 : Fin 32)].defined = false ∧ live.time.house < 6000 ∧ ¬live.time.house < 5000 ∧
      live.bookings[(0 : Fin 256)].state = .free ∧
      (∃ x ∈ live.calendar[(2 : Fin 32)], max 4999 4998 < x.endE ∧ x.startS < 7000) := by decide +kernel

theorem test_w_bookTakes :
    (fetching live).orderArrives 7 3 5 (book 4 2 7000 8000) ∧ shapeOk 5 (book 4 2 7000 8000) = true ∧
      ((bookOrder? (book 4 2 7000 8000)).map fun o => (o.cls, o.main, o.backup)) = some (1, 4, none) ∧
      ((bookOrder? (book 4 2 7000 8000)).map fun o => (o.windows, o.endE)) = some ([2], 8000) ∧
      live.bookings[(0 : Fin 256)].state = .free ∧
      (∀ j : Fin 256, j < 0 → live.bookings[j].state ≠ .free) ∧
      (∀ x ∈ live.calendar[(2 : Fin 32)], ¬(max 7000 live.time.house < x.endE ∧ x.startS < 8000)) ∧
      max 4000 live.time.house = live.time.house ∧ 6000 ≤ live.time.house + live.ctl.settings.preroll ∧
      live.time.house + live.ctl.settings.preroll < 6001 := by decide +kernel

theorem test_book_states :
    replyOf (.book 7 (book 4 2 4000 8000)) (fetching live) =
        some (.done true (.book { index := 0, gen := 1 } .onAir 5000 8000 0 0)) ∧
      replyOf (.book 7 (book 4 2 6000 8000)) (fetching live) =
        some (.done false (.book { index := 0, gen := 1 } .preroll 6000 8000 0 0)) ∧
      replyOf (.book 7 (book 4 2 6001 8000)) (fetching live) =
        some (.done false (.book { index := 0, gen := 1 } .pending 6001 8000 0 0)) := by decide +kernel

/-- An EXTEND entry for booking 5. -/
def extend (gen x : Nat) : List Byte := ord 6 [(8, 1, 5), (9, 1, gen), (0xC, 4, x)]

/-- A later booking stands at 5100 on window 2. -/
def followed : State :=
  { live with
    calendar := live.calendar.set 2
      [{ booking := 5, startS := 4000, endE := 5000 }, { booking := 6, startS := 5100, endE := 6000 }] }

theorem test_w_extend :
    (fetching live).orderArrives 7 3 6 (extend 1 100) ∧ shapeOk 6 (extend 1 100) = true ∧
      ¬1 ≤ field (extend 1 0) 0xC 4 ∧ field (extend 1 172800000) 0xC 4 ≤ 172800000 ∧
      live.bookings[(5 : Fin 256)].gen ≠ (orderHandle (extend 2 100)).gen ∧
      live.bookings[(5 : Fin 256)].state = .onAir ∧ fed.bookings[(5 : Fin 256)].state = .free ∧
      (∃ y ∈ followed.calendar[(2 : Fin 32)], y.booking ≠ 5 ∧ 5000 ≤ y.startS ∧ y.startS = 5100) ∧
      (booked (fun b => { b with state := .overrun }) live).bookings[(5 : Fin 256)].state = .overrun := by
  decide +kernel

theorem test_extend :
    replyOf (.extend 7 (extend 1 200)) (fetching followed) =
        some (.done true (.extend { index := 5, gen := 1 } .onAir 5100 100)) ∧
      replyOf (.extend 7 (extend 1 200))
        (fetching (booked (fun b => { b with endE := 5100 }) followed)) = some (.refused .conflict) ∧
      replyOf (.extend 7 (extend 1 172800000)) (fetching live) =
        some (.done true (.extend { index := 5, gen := 1 } .onAir 172804000 172799000)) := by decide +kernel

theorem test_w_close :
    live.bookings[(5 : Fin 256)].state = .onAir ∧ live.bookings[(5 : Fin 256)].backup ≠ some 4 ∧
      fed.bookings[(5 : Fin 256)].state ≠ .onAir ∧ live.bookings[(5 : Fin 256)].actStart = some 4000 ∧
      fed.bookings[(5 : Fin 256)].actStart = none ∧
      live.bookings[(5 : Fin 256)].meter.openSpan = none := by decide +kernel

theorem test_w_releaseCancelMeter :
    (fetching live).orderArrives 7 3 7 (ord 7 [(8, 2, 0x105)]) ∧ shapeOk 7 (ord 7 [(8, 2, 0x105)]) = true ∧
      (fetching live).orderArrives 7 3 8 (ord 8 [(8, 2, 0x105)]) ∧ shapeOk 8 (ord 8 [(8, 2, 0x105)]) = true ∧
      (fetching live).orderArrives 7 3 9 (ord 9 [(8, 2, 0x105)]) ∧ shapeOk 9 (ord 9 [(8, 2, 0x105)]) = true ∧
      orderHandle (ord 7 [(8, 2, 0x105)]) = { index := 5, gen := 1 } ∧
      live.bookings[(5 : Fin 256)].gen = 1 ∧ live.bookings[(5 : Fin 256)].state = .onAir ∧
      (booked (fun b => { b with state := .preroll }) live).bookings[(5 : Fin 256)].state = .preroll := by
  decide +kernel

theorem test_release :
    replyOf (.release 7 (ord 7 [(8, 2, 0x105)])) (fetching live) =
        some (.done false (.release { index := 5, gen := 1 } 5000)) ∧
      nextIs (exec (.release 7 (ord 7 [(8, 2, 0x105)])) (fetching live))
        (fun t => t.poster.hold.length == 2 && t.bookings[(5 : Fin 256)].state == .free &&
          t.windows[(2 : Fin 32)].holder == none && t.useCounts[(4 : Fin 48)] == 0 &&
          t.calendar[(2 : Fin 32)].isEmpty) = true := by decide +kernel

theorem test_cancel :
    replyOf (.cancel 7 (ord 8 [(8, 2, 0x105)]))
        (fetching (booked (fun b => { b with state := .pending, startS := 3605000 }) live)) =
        some (.done false (.cancel { index := 5, gen := 1 } false 5000)) ∧
      replyOf (.cancel 7 (ord 8 [(8, 2, 0x105)]))
        (fetching (booked (fun b => { b with state := .pending, startS := 3604999 }) live)) =
        some (.done false (.cancel { index := 5, gen := 1 } true 5000)) := by decide +kernel

theorem test_meter :
    nextIs (exec (.meter 7 (ord 9 [(8, 2, 0x105)])) (fetching live))
      (fun t => t.bookings == live.bookings &&
        t.poster.hold.any fun r => match r.body with
          | .meter m => m.charges.baseMin == 1 && m.charges.total == 300000 && m.actEnd == 5000
          | _ => false) = true := by decide +kernel

/-- A DEFINE_WINDOW entry. -/
def defineWindow (w tag guard : Nat) : List Byte := ord 10 [(8, 2, w), (0xA, 2, tag), (0xC, 2, guard)]

theorem test_w_defineWindow :
    (fetching live).orderArrives 7 3 10 (defineWindow 32 0 0) ∧ shapeOk 10 (defineWindow 32 0 0) = true ∧
      32 ≤ field (defineWindow 32 0 0) 8 2 ∧ field (defineWindow 2 1 8) 8 2 = (2 : Fin 32).val ∧
      live.windows[(2 : Fin 32)].holder ≠ none ∧ live.windows[(31 : Fin 32)].holder = none ∧
      (fetching live).orderArrives 7 3 10 (ord 10 [(127, 1, 1)]) ∧
      fieldByte 10 (ord 10 [(127, 1, 1)]) 127 = false ∧ byteAt (ord 10 [(127, 1, 1)]) 127 ≠ 0 ∧
      word16At (defineWindow 2 1 8) 0xA ≠ live.windows[(2 : Fin 32)].tag := by decide +kernel

theorem test_defineWindow :
    replyOf (.defineWindow 7 (defineWindow 2 1 8)) (fetching live) = some (.refused .inUse) ∧
      nextIs (exec (.defineWindow 7 (defineWindow 31 1 9)) (fetching live))
        (fun t => t.windows[(31 : Fin 32)].guard == 8 && t.windows[(31 : Fin 32)].defined) = true := by
  decide +kernel

/-! ### Pre-roll, start and end -/

/-- Booking 5 not yet on air, in a state with an expiry. -/
def pendingBooking (s : State) : State :=
  booked (fun b => { b with state := .pending, actStart := none, endExp := none, lineCheck := .idle
                            prerollExp := some 5000, startS := 6000, endE := 9000 }) s
def prerolled (s : State) : State :=
  booked (fun b => { b with state := .preroll, actStart := none, endExp := none, startExp := some 5000
                            lineCheck := .waiting, lineExp := some 5000, endE := 9000 }) s

/-- Booking 5 may overrun. -/
def mayOverrun (s : State) : State := booked (fun b => { b with holdOn := true, maxOver := 600 }) s

/-- Booking 6, on the same window, holds it. -/
def heldByOther (s : State) : State :=
  { (prerolled s) with
    bookings := (prerolled s).bookings.set 6 { aired with holdOn := true, maxOver := 600 }
    windows := s.windows.set 2
      { s.windows[(2 : Fin 32)] with holder := some { index := 6, gen := 1 } } }

theorem test_w_preroll :
    (pendingBooking live).bookings[(5 : Fin 256)].state = .pending ∧
      (pendingBooking live).bookings[(5 : Fin 256)].prerollExp = some 5000 ∧ 5000 ≤ live.time.house ∧
      (∀ x ∈ (pendingBooking live).bookings[(5 : Fin 256)].sources, live.sources[x].enabled = true) ∧
      (∃ x ∈ (pendingBooking live).bookings[(5 : Fin 256)].sources, active.sources[x].enabled = false) ∧
      (∃ x ∈ aired.sources, { live with
        health := live.health.set 4 (Health.entered 0 10) }.health[x].state = .absent) ∧
      live.ctl.settings.lineWait ≠ 0 ∧ aired.backup ≠ some aired.main ∧
      (prerolled live).bookings[(5 : Fin 256)].lineCheck = .waiting ∧
      (prerolled live).bookings[(5 : Fin 256)].lineExp = some 5000 := by decide +kernel

theorem test_prerollExpiry :
    nextIs (exec (.prerollExpiry 5) (pendingBooking live))
      (fun t => t.bookings[(5 : Fin 256)].state == .preroll && t.useCounts[(4 : Fin 48)] == 2 &&
        t.bookings[(5 : Fin 256)].lineCheck == .done && t.poster.hold.length == 1) = true ∧
    nextIs (exec (.prerollExpiry 5) (pendingBooking active))
      (fun t => t.bookings[(5 : Fin 256)].state == .free && t.poster.hold.any fun r => match r.body with
        | .settlement x => x.withdrawn && x.reason == .cancelled && x.cancelTime == some 5000
        | _ => false) = true := by decide +kernel

theorem test_lineCheckWaitExpiry :
    nextIs (exec (.lineCheckWaitExpiry 5) (prerolled (failed live)))
      (fun t => t.bookings[(5 : Fin 256)].lineCheck == .done && t.poster.hold.any fun r => match r.body with
        | .lineCheck n => n.result == .notReady && n.trigger == .wait
        | _ => false) = true := by decide +kernel

theorem test_w_startEnd :
    (prerolled live).bookings[(5 : Fin 256)].state = .preroll ∧
      (prerolled live).bookings[(5 : Fin 256)].startExp = some 5000 ∧
      live.bookings[(5 : Fin 256)].state = .onAir ∧ live.bookings[(5 : Fin 256)].endExp = some 5000 ∧
      live.bookings[(5 : Fin 256)].holdOn = false ∧
      (mayOverrun live).bookings[(5 : Fin 256)].holdOn = true ∧
      0 < (mayOverrun live).bookings[(5 : Fin 256)].maxOver ∧
      (booked (fun b => { b with state := .overrun, capExp := some 5000 }) live).bookings[(5 : Fin 256)].capExp =
        some 5000 := by decide +kernel

theorem test_startExpiry :
    nextIs (exec (.startExpiry 5) (heldByOther live))
      (fun t => t.bookings[(5 : Fin 256)].state == .onAir && t.bookings[(6 : Fin 256)].state == .free &&
        t.windows[(2 : Fin 32)].holder == some { index := 5, gen := 1 } &&
        (t.poster.hold.map fun r => r.body.code) == [3, 6, 7] &&
        t.poster.hold.any fun r => match r.body with
          | .settlement x => x.reason == .yielded
          | _ => false) = true := by decide +kernel

theorem test_endExpiry :
    nextIs (exec (.endExpiry 5) (mayOverrun live))
      (fun t => t.bookings[(5 : Fin 256)].state == .overrun &&
        t.bookings[(5 : Fin 256)].capExp == some 5600) = true ∧
    nextIs (exec (.endExpiry 5) live)
      (fun t => t.bookings[(5 : Fin 256)].state == .free && t.windows[(2 : Fin 32)].holder == none) = true := by
  decide +kernel

theorem test_overrunCapExpiry :
    nextIs (exec (.overrunCapExpiry 5)
        (booked (fun b => { b with state := .overrun, endExp := none, capExp := some 5000 }) live))
      (fun t => t.poster.hold.any fun r => match r.body with
        | .settlement x => x.reason == .capped
        | _ => false) = true := by decide +kernel

theorem test_w_onAirEntry :
    (prerolled live).bookings[(5 : Fin 256)].meter.openSpan = none ∧
      (prerolled live).bookings[(5 : Fin 256)].lineCheck ≠ .done ∧
      (prerolled live).bookings[(5 : Fin 256)].mode ≠ .switch ∧
      (switched onMain (prerolled live)).bookings[(5 : Fin 256)].mode = .switch ∧
      (switched onMain (prerolled live)).legs[(5 : Fin 256)] = some onMain ∧
      live.poster.haltPlaced = false ∧ live.poster.used ≤ 10 := by decide +kernel

/-- The entry whose line check is DONE already. -/
theorem test_w_onAirEntry_done :
    live.bookings[(5 : Fin 256)].meter.openSpan = none ∧ live.bookings[(5 : Fin 256)].lineCheck = .done ∧
      live.bookings[(5 : Fin 256)].lineExp = none := by decide +kernel

/-- The LINE_CHECK notice of a start stands before the ON_AIR notice. -/
theorem test_onAirEntry_notices :
    (((prerolled live).enterOnAir 5 false 0).poster.hold.map fun r => r.body.code) = [6, 7] ∧
      ((live.enterOnAir 5 false 0).poster.hold.map fun r => r.body.code) = [7] := by decide +kernel

/-! ### Charges and the settlement entry (the cup tie of 8.7) -/

/-- The cup tie at its close. -/
def cupTie : Booking :=
  { Booking.reset 1 with
    state := .overrun, main := 6, backup := some 7, mode := .switch, windows := [14, 15]
    startS := 64800000, endE := 71400000, holdOn := true, maxOver := 3600000
    actStart := some 64800000, actEnd := some 73661250
    tariff :=
      { defined := true, base := 450000, fan := 60000, overrun := 900000, credit := 700000,
        grace := 120000, threshold := 10000, lateWindow := 3600000 }
    meter :=
      { Meter.reset with
        delivered := 20318442, deliveredBytes := 26739069672, fills := 3577, skipped := 212
        legSwitches := 2, spans := 3, longest := 95300, qualifying := 156300 } }

theorem test_cupTie_charges :
    let x := chargesAired cupTie cupTie.meter 73661250
    x.baseMin = 110 ∧ x.overMin = 36 ∧ x.creditMin = 2 ∧ x.total = 89260000 ∧ x.capped = false := by
  decide +kernel

/-- 9.5.4: the bytes of the cup tie's SETTLEMENT entry. -/
theorem test_cupTie_entry :
    let e := Report.bytes
      { created := 73661250, body := .settlement (settlementOf cupTie 5 .released false 73661250) } 0 none
    e.length = 128 ∧ field e 0 1 = 3 ∧ field e 3 5 = 73661250 ∧
      (e.drop 0x0A).take 7 = [0x0A, 6, 7, 14, 15, 0xFF, 0xFF] ∧
      (e.drop 0x19).take 6 = [0x00, 0xC5, 0xDC, 0x03, 0, 0] ∧
      (e.drop 0x25).take 6 = [0x00, 0xC5, 0xDC, 0x03, 0, 0] ∧
      (e.drop 0x31).take 6 = List.replicate 6 0xFF ∧ (e.drop 0x3B).take 3 = [0x02, 0x81, 0x22] ∧
      (e.drop 0x47).take 2 = [36, 2] ∧ (e.drop 0x5C).take 6 = [0xE0, 0xFF, 0x51, 0x05, 0, 0] := by
  decide +kernel

/-! ### Reports, and the end of a run -/

/-- A report that waits, a notice of the stray monitor, and the HALT completion. -/
def rateReport : Report :=
  { created := 4990, body := .rate { src := 4, overRate := 1, total := 9, allowance := 5 } }
def strayReport : Report :=
  { created := 4990, body := .stray { kind := .span, id := 12, addr := 0x2000000, counts := .zero } }
def haltReport : Report :=
  { created := 4990,
    body := .completion { kind := 12, tag := 0x55, index := 3, outcome := .done false .halt } }

/-- A hold queue that holds these. -/
def holding (l : List Report) (s : State) : State := { s with poster := { s.poster with hold := l } }

/-- Booking 5 in SETTLING, waiting in the settlement list. -/
def settling (s : State) : State :=
  { booked (fun b => { b with
      state := .settling, endExp := none
      held := some (settlementOf { aired with actEnd := some 5000 } 5 .planned false 5000) }) s with
    settlements := [5] }

/-- The write of the report at the head is at memory under tag 7. -/
def writing (s : State) : State :=
  { s with
    poster := { s.poster with posting := some { index := 0, lost := 2 } }
    port := { s.port with
      nextTag := 8
      outstanding :=
        [{ mtag := 7, addr := 0x200000, access := full (zeros 128), purpose := .own (.reportWrite 0) }] } }

theorem test_w_holdQueue :
    live.poster.used + 5 ≤ 16 ∧ live.poster.haltPlaced = false ∧
      (holding (List.replicate 11 rateReport) live).poster.used + 5 = 16 ∧
      16 < (holding (List.replicate 12 rateReport) live).poster.used + 5 ∧
      (settling live).settlements = [5] ∧ (settling live).bookings[(5 : Fin 256)].held.isSome = true ∧
      (settling live).poster.used < 16 ∧
      16 ≤ (holding (List.replicate 16 rateReport) (settling live)).poster.used ∧
      live.settlements = [] := by decide +kernel

theorem test_settlementEntry :
    nextIs (exec .settlementEntry (settling live))
      (fun t => t.settlements.isEmpty && t.bookings[(5 : Fin 256)].state == .free &&
        (t.poster.hold.map fun r => (r.created, r.body.code)) == [(5000, 3)]) = true := by decide +kernel

theorem test_w_reportWrite :
    (holding [rateReport] live).poster.hold = [rateReport] ∧ live.poster.posting = none ∧
      (live.poster.head + 1) % live.ctl.settings.reportCount ≠ live.poster.consumer ∧
      live.poster.lost ≤ 65535 ∧ rateReport.created < 2 ^ 40 ∧ live.poster.hold = [] ∧
      ((ringAt 2 3 live).poster.head + 1) % live.ctl.settings.reportCount =
        (ringAt 2 3 live).poster.consumer := by decide +kernel

theorem test_reportWriteBegin :
    nextIs (exec .reportWriteBegin (holding [rateReport] live))
      (fun t => t.poster.posting == some { index := 0, lost := 0 } &&
        (t.port.own.map fun x => x.addr) == [0x200000]) = true := by decide +kernel

theorem test_w_reportResponse :
    (writing (holding [rateReport] live)).port.ownPurpose 7 = some (.reportWrite 0) ∧
      (writing (holding [rateReport] live)).poster.posting = some { index := 0, lost := 2 } ∧
      (∃ n, strayReport.body = .stray n) ∧
      (∃ c f, haltReport.body = .completion c ∧ c.outcome = .done f .halt) ∧
      ¬(∃ n, rateReport.body = .stray n) :=
  ⟨by decide +kernel, by decide +kernel, ⟨_, rfl⟩, ⟨_, false, rfl, rfl⟩, by rintro ⟨n, h⟩; cases h⟩

theorem test_reportWriteResponse :
    nextIs (exec (.reportWriteResponse 7 true) (writing (holding [haltReport] live)))
      (fun t => t.poster.head == 1 && t.poster.hold.isEmpty && t.port.own.length == 2 &&
        t.ctl.passiveWait == some { status := true, head := true }) = true ∧
    nextIs (exec (.reportWriteResponse 7 false) (writing (holding [rateReport] live)))
      (fun t => t.poster.head == 0 && t.poster.lost == 3) = true := by decide +kernel

/-- A word write of the part's own is at memory under tag 7. -/
def wordAt (p : OwnPurpose) (w : Option PassiveWait) (s : State) : State :=
  { s with
    ctl := { s.ctl with passiveWait := w }
    port := { s.port with
      outstanding := [{ mtag := 7, addr := 0x308, access := full (zeros 4), purpose := .own p }] } }

theorem test_w_wordResponses :
    (wordAt (.reportHead 1 false) none live).port.ownPurpose 7 = some (.reportHead 1 false) ∧
      (wordAt (.reportHead 1 true) (some { status := false, head := true }) live).ctl.passiveWait =
        some { status := false, head := true } ∧
      (wordAt (.orderHead 4) none live).port.ownPurpose 7 = some (.orderHead 4) ∧
      (wordAt (.status false) none live).port.ownPurpose 7 = some (.status false) ∧
      (wordAt (.status true) none live).port.ownPurpose 7 = some (.status true) ∧
      live.poster.publishedTag = none := by decide +kernel

theorem test_headWordWriteResponse :
    nextIs (exec (.headWordWriteResponse 7 true) (wordAt (.reportHead 1 false) none live))
      (fun t => t.attn && t.poster.published == 1) = true ∧
    nextIs (exec (.headWordWriteResponse 7 true)
        (wordAt (.reportHead 1 true) (some { status := false, head := true }) live))
      (fun t => t.ctl.act == .passive && !t.time.running && !t.attn) = true := by decide +kernel

theorem test_statusWordWriteResponse :
    nextIs (exec (.statusWordWriteResponse 7 false)
        (wordAt (.status true) (some { status := true, head := false }) live))
      (fun t => t.ctl.act == .passive && t.path.ingress == none) = true := by decide +kernel

/-- HALT was taken, and its completion waits. -/
def halted (s : State) : State :=
  { fetching s with
    ctl := { s.ctl with act := .halting, haltAnswer := some { tag := 0x55, index := 3, created := 4990 } } }

theorem test_w_halt :
    (fetching live).orderArrives 7 3 12 (ord 12 []) ∧ shapeOk 12 (ord 12 []) = true ∧
      (halted live).ctl.haltAnswer = some { tag := 0x55, index := 3, created := 4990 } ∧
      (halted live).ctl.act = .halting ∧ (halted live).settlements = [] ∧
      (halted live).poster.reserved = true ∧ live.ctl.haltAnswer = none ∧
      (settling (halted live)).settlements ≠ [] := by decide +kernel

theorem test_halt :
    nextIs (exec (.halt 7 (ord 12 [])) (fetching live))
      (fun t => t.ctl.act == .halting && t.ctl.head == 4 && t.bookings[(5 : Fin 256)].state == .free &&
        (t.poster.hold.map fun r => r.body.code) == [3] && t.poster.reserved) = true := by decide +kernel

theorem test_haltCompletion :
    nextIs (exec .haltCompletion (halted live))
      (fun t => t.poster.hold == [haltReport] && t.poster.haltPlaced && !t.poster.reserved) = true := by
  decide +kernel

/-! ### A state that meets every law, with a command in front -/

/-- `live` with the end expiry of booking 5 in front of the queue. -/
def queued : State := { live with pending := [.endExpiry 5] }

theorem test_w_step_queued : ∃ t, step queued = .next t := ⟨_, rfl⟩

theorem test_w_laws_queues : queued.queuesBounded ∧ queued.settlementsWait := by decide +kernel
theorem test_w_laws_time : queued.timeLaw ∧ queued.fetchLaw := by decide +kernel
theorem test_w_laws_ahead : queued.aheadLaw := by
  have h : ∀ i : Fin 48, (10 ≤ queued.sources[i].silenceLimit) ∧
      ∀ e ∈ queued.health[i].silence, 5000 ≤ e := by decide +kernel
  refine ⟨fun e he => ?_, fun i => ⟨(h i).1, fun e he => (h i).2 e he⟩⟩
  have : some 5000 = some e := he
  simp only [Option.some.injEq] at this
  exact this ▸ Nat.le_refl _
theorem test_w_laws_health : queued.healthLaw := by decide +kernel
theorem test_w_laws_settlement : queued.settlementLaw := by decide +kernel
theorem test_w_laws_use : queued.useLaw := by decide +kernel
theorem test_w_laws_expiry : queued.expiryLaw := by decide +kernel

theorem test_w_laws_slot : queued.slotLaw := by
  have h : ∀ i : Fin 48, queued.sources[i].slots.length = 16 ∧ ∀ k : Fin 16,
      (match queued.sources[i].slots[k.val]? with
      | some (some e) => e.seq.toNat % 16 == k.val && queued.sources[i].last.any fun l => !newer e.seq l
      | _ => true) = true := by decide +kernel
  intro i
  refine ⟨(h i).1, fun k e hk => ?_⟩
  have hlt : k < 16 := (h i).1 ▸ (List.getElem?_eq_some_iff.1 hk).1
  have hm := (h i).2 ⟨k, hlt⟩
  simp only [hk, Bool.and_eq_true, beq_iff_eq, Option.any_eq_true, Bool.not_eq_true'] at hm
  exact hm

theorem test_w_laws_binding : queued.bindingLaw ∧ queued.bindingSourceLaw := by
  have h : ∀ w : Fin 32, queued.windows[w].bindings.length = 16 ∧ ∀ k : Fin 16,
      (match queued.windows[w].bindings[k.val]? with
      | some (.source src _ q _ _) =>
        (queued.windows[w].last.any fun l => !newer q l) &&
          queued.windows[w].holder.any fun g => queued.bookings[g.index].sources.contains src
      | _ => true) = true := by decide +kernel
  constructor
  · intro w k src m q len leg hk
    have hlt : k < 16 := (h w).1 ▸ (List.getElem?_eq_some_iff.1 hk).1
    have hm := (h w).2 ⟨k, hlt⟩
    simp only [hk, Bool.and_eq_true, Option.any_eq_true, Bool.not_eq_true', List.contains_iff_mem] at hm
    obtain ⟨⟨l, h2, h3⟩, g, h4, _⟩ := hm
    exact ⟨Option.isSome_iff_exists.2 ⟨g, h4⟩, l, h2, h3⟩
  · intro w k src m q len leg hk
    have hlt : k < 16 := (h w).1 ▸ (List.getElem?_eq_some_iff.1 hk).1
    have hm := (h w).2 ⟨k, hlt⟩
    simp only [hk, Bool.and_eq_true, Option.any_eq_true, Bool.not_eq_true', List.contains_iff_mem] at hm
    obtain ⟨_, g, h4, h5⟩ := hm
    exact ⟨g, h4, h5⟩

theorem test_w_laws_holder : queued.holderLaw := by
  have h : ∀ w : Fin 32, ∀ g ∈ queued.windows[w].holder,
      queued.bookings[g.index].state.onAirOrOverrun = true ∧ queued.bookings[g.index].gen = g.gen ∧
        w ∈ queued.bookings[g.index].windows := by decide +kernel
  exact ⟨fun w g hg => h w g hg, by decide +kernel⟩

theorem test_w_laws_leg : queued.legLaw := by
  have h : ∀ i : Fin 256, queued.legs[i] = none := by decide +kernel
  intro i
  refine ⟨?_, fun l hl => ?_⟩
  · rw [h i]
    revert i
    decide +kernel
  · rw [h i] at hl
    cases hl

theorem test_w_laws_calendar : queued.calendarLaw := by
  have hc : ∀ w : Fin 32, queued.calendar[w] =
      if w = 2 then [{ booking := 5, startS := 4000, endE := 5000 }] else [] := by decide +kernel
  have hl : ∀ i : Fin 256, queued.bookings[i].state.live = true → i = 5 := by decide +kernel
  have h5 : queued.bookings[(5 : Fin 256)] = aired := by decide +kernel
  refine ⟨fun w x => ?_, fun w => ?_, ?_⟩
  · rw [hc w]
    constructor
    · intro hx
      by_cases hw : w = 2
      · subst hw
        simp only [if_true, List.mem_singleton] at hx
        subst hx
        decide +kernel
      · simp [hw] at hx
    · rintro ⟨h1, h2, h3, h4⟩
      have hb := hl _ h1
      obtain ⟨xb, xs, xe⟩ := x
      simp only at hb h2 h3 h4
      subst hb
      rw [h5] at h2 h3 h4
      have hw : w = 2 := by simpa [aired] using h2
      simp [hw, h3, h4, aired]
  · rw [hc w]
    split <;> simp
  · decide +kernel

end Sys2Proof.Tests
end

namespace Sys2Proof.Machine

/-! ## The queues (R16, R17, R33 to R35, R39)

What a command does to the queues, said once for all commands: it leaves the command queue, keeps each queue within
its size, and lets a settlement wait only for a full hold queue. -/

/-- `t` follows from `s` with the command queue as it was, each queue within its size, and settlements that wait
only while no hold-queue entry is free. -/
structure QueueStep (s t : State) : Prop where
  pending : t.pending = s.pending
  forwarded : s.port.forwarded.length ≤ 16 → t.port.forwarded.length ≤ 16
  own : s.port.own.length ≤ 8 → t.port.own.length ≤ 8
  used : s.poster.used ≤ 16 → t.poster.used ≤ 16
  lost : s.poster.lost ≤ 65535 → t.poster.lost ≤ 65535
  waits : s.settlementsWait → t.settlementsWait

namespace QueueStep

theorem refl (s : State) : QueueStep s s := ⟨rfl, id, id, id, id, id⟩

theorem trans {s t u : State} (a : QueueStep s t) (b : QueueStep t u) : QueueStep s u :=
  ⟨b.pending.trans a.pending, b.forwarded ∘ a.forwarded, b.own ∘ a.own, b.used ∘ a.used, b.lost ∘ a.lost,
    b.waits ∘ a.waits⟩

theorem foldl {α : Type} (f : State → α → State) (h : ∀ s a, QueueStep s (f s a)) (l : List α) (s : State) :
    QueueStep s (l.foldl f s) := by
  induction l generalizing s with
  | nil => exact refl s
  | cons a l ih => exact (h s a).trans (ih (f s a))

/-- An update that leaves the ports' queues, the poster and the settlement list. -/
theorem ofSame {s t : State} (pending : t.pending = s.pending) (forwarded : t.port.forwarded = s.port.forwarded)
    (own : t.port.own = s.port.own) (poster : t.poster = s.poster) (settlements : t.settlements = s.settlements) :
    QueueStep s t := by
  refine ⟨pending, ?_, ?_, ?_, ?_, ?_⟩ <;> simp [forwarded, own, poster, settlements, State.settlementsWait]

/-- A reset of the poster with an empty settlement list. -/
theorem ofEmpty {s t : State} (pending : t.pending = s.pending)
    (forwarded : t.port.forwarded.length ≤ s.port.forwarded.length)
    (own : s.port.own.length ≤ 8 → t.port.own.length ≤ 8) (poster : t.poster = .reset)
    (settlements : t.settlements = []) : QueueStep s t := by
  refine ⟨pending, forwarded.trans, own, ?_, ?_, fun _ => Or.inl settlements⟩ <;>
    simp [poster, Poster.reset, Poster.used]

end QueueStep

theorem TableStep.queue {s t : State} (h : TableStep s t) : QueueStep s t :=
  ⟨h.pending, by simp [h.port], by simp [h.port], h.used, h.lost, h.waits⟩

/-! ### The ports -/

theorem State.place_queue (x : OwnTxn) (s : State) : QueueStep s (s.place x) :=
  ⟨rfl, by simp [Port.place_forwarded], Port.place_own x s.port, id, id, id⟩

theorem State.dropResponse_queue (mtag : Nat) (s : State) : QueueStep s (s.dropResponse mtag) :=
  .ofSame rfl rfl rfl rfl rfl

theorem State.answer_queue (id : Fin 16) (tag : Nat) (resp : Resp) (s : State) :
    QueueStep s (s.answer id tag resp) := .ofSame rfl rfl rfl rfl rfl

theorem State.modPath_queue (f : PathState → PathState) (s : State) : QueueStep s (s.modPath f) :=
  .ofSame rfl rfl rfl rfl rfl

theorem State.modCtl_queue (f : Control → Control) (s : State) : QueueStep s (s.modCtl f) :=
  .ofSame rfl rfl rfl rfl rfl

theorem State.modTime_queue (f : TimeBase → TimeBase) (s : State) : QueueStep s (s.modTime f) :=
  .ofSame rfl rfl rfl rfl rfl

/-- A transaction enters the forwarded stream where it has room (R16). -/
theorem State.forward_queue (f : Forwarded) {s : State} (h : s.port.forwarded.length < 16) :
    QueueStep s (s.forward f) :=
  ⟨rfl, fun _ => by simpa [Port.forward] using h, id, id, id, id⟩

/-! ### The system port -/

theorem State.feedHolder_step (holder : Option Handle) (f : Meter → Meter) (s : State) :
    TableStep s (s.feedHolder holder f) := by
  cases holder with
  | none => exact .refl s
  | some h => exact s.modMeter_step _ _

/-- The use of a free value touches its counter alone (log 14). -/
theorem Port.useFree_eq (p : Port) (n : Nat) : p.useFree n = { p with freeCount := (p.useFree n).freeCount } := by
  unfold Port.useFree
  split <;> rfl

theorem Port.useFreeFor_eq (p : Port) (rw : Option Rewrite) (r : Resp) :
    p.useFreeFor rw r = { p with freeCount := (p.useFreeFor rw r).freeCount } := by
  unfold Port.useFreeFor
  split
  · exact p.useFree_eq _
  · rfl

theorem Port.useFree_forwarded (n : Nat) (p : Port) : (p.useFree n).forwarded = p.forwarded := by
  rw [Port.useFree_eq]

theorem Port.useFree_own (n : Nat) (p : Port) : (p.useFree n).own = p.own := by
  rw [Port.useFree_eq]

theorem Port.useFreeFor_forwarded (rw : Option Rewrite) (r : Resp) (p : Port) :
    (p.useFreeFor rw r).forwarded = p.forwarded := by
  rw [Port.useFreeFor_eq]

theorem Port.useFreeFor_own (rw : Option Rewrite) (r : Resp) (p : Port) : (p.useFreeFor rw r).own = p.own := by
  rw [Port.useFreeFor_eq]

theorem State.answerFill_queue (t : Txn) (i : Fin 32) (k : Nat) (w : Window) (reason : FillReason) (s : State) :
    QueueStep s (s.answerFill t i k w reason) := by
  have fed : ∀ (x : Window), QueueStep s
      (match reason with
        | .unrouted => s.putWindow i x
        | .sourceDown | .noBaseline | .underrun | .void => (s.putWindow i x).feedHolder w.holder Meter.fill) := by
    intro x
    cases reason
    case unrouted => exact (s.putWindow_step i x).queue
    all_goals exact ((s.putWindow_step i x).trans (State.feedHolder_step _ _ _)).queue
  refine (fed _).trans (.ofSame rfl ?_ ?_ rfl rfl)
  · exact Port.useFree_forwarded _ _
  · exact Port.useFree_own _ _

theorem State.answerDeliver_queue (t : Txn) (i : Fin 32) (k : Nat) (w : Window) (leg : LegName) (src : Fin 48)
    (m : Nat) (e : SlotEntry) {s : State} (h : s.port.forwarded.length < 16) :
    QueueStep s (s.answerDeliver t i k w leg src m e) := by
  have fed := (s.putWindow_step i (w.deliver s.ctl.settings.d k leg src m e).advance).trans
    (State.feedHolder_step w.holder (fun x => x.deliver e.len (distance e.seq w.last)) _)
  exact fed.queue.trans (State.forward_queue _ (fed.port ▸ h))

theorem State.windowRead_queue (t : Txn) (w : Fin 32) (k off : Nat) {s : State} (h : s.port.forwarded.length < 16) :
    QueueStep s (s.windowRead t w k off) := by
  unfold State.windowRead State.windowHeaderRead State.windowPayloadRead
  split
  · split
    · exact s.answerFill_queue _ _ _ _ _
    · exact State.answerDeliver_queue _ _ _ _ _ _ _ _ h
  · split
    · exact State.forward_queue _ h
    all_goals exact s.answer_queue _ _ _

theorem State.refuse_queue (t : Txn) (kind : StrayKind) (s : State) : QueueStep s (s.refuse t kind) := by
  unfold State.refuse
  dsimp only
  split
  · exact (s.answer_queue _ _ _).trans (State.modPath_queue _ _)
  · exact ((s.answer_queue _ _ _).trans (State.modPath_queue _ _)).trans (State.offer_step _ _).queue

/-- A transaction is accepted while the forwarded stream has room (R16). -/
theorem State.accept_queue (t : Txn) {s : State} (h : s.port.forwarded.length < 16) :
    QueueStep s (s.accept t) := by
  unfold State.accept
  dsimp only
  split
  · split
    · exact State.forward_queue _ h
    · exact (State.forward_queue _ h).trans (State.ingress_step _ _ _ _ _).queue
    · exact State.windowRead_queue _ _ _ _ h
    · exact s.refuse_queue _ _
  · exact State.forward_queue _ h

/-- When the system port takes a transaction (R16, R19). -/
theorem State.holdsOff_eq_false_iff (s : State) :
    s.holdsOff = false ↔ s.resetLine = false ∧ s.port.heldOff = [] ∧ s.port.forwarded.length < 16 := by
  simp only [State.holdsOff, Bool.or_eq_false_iff, Bool.not_eq_false', List.isEmpty_iff, decide_eq_false_iff_not,
    Nat.not_le, and_assoc]
  rfl

theorem State.present_of_heldOff {s : State} (t : Txn) (h : s.holdsOff = true) :
    s.present t = { s with port := { s.port with heldOff := s.port.heldOff ++ [t] } } := by
  simp [State.present, h, State.modPort]

theorem State.present_of_taken {s : State} (t : Txn) (h : s.holdsOff = false) : s.present t = s.accept t := by
  simp [State.present, h]

theorem State.present_queue (t : Txn) (s : State) : QueueStep s (s.present t) := by
  cases h : s.holdsOff with
  | true => exact s.present_of_heldOff t h ▸ .ofSame rfl rfl rfl rfl rfl
  | false =>
    obtain ⟨_, _, room⟩ := s.holdsOff_eq_false_iff.1 h
    exact State.present_of_taken t h ▸ State.accept_queue t room

/-- Nothing held off is taken while none waits, RESET is asserted, or the forwarded stream is full (R16, R19). -/
theorem State.takeHeld_of_blocked {s : State}
    (h : s.port.heldOff = [] ∨ s.resetLine = true ∨ 16 ≤ s.port.forwarded.length) : s.takeHeld = s := by
  unfold State.takeHeld
  split
  · rfl
  · next t rest e =>
    have closed : s.resetLine = true ∨ Config.streamCapacity ≤ s.port.forwarded.length :=
      h.resolve_left (e ▸ List.cons_ne_nil t rest)
    exact if_pos (by simpa only [Bool.or_eq_true, decide_eq_true_eq] using closed)

/-- The transaction held off longest is accepted when the port takes transactions (R16). -/
theorem State.takeHeld_of_open {s : State} {t : Txn} {rest : List Txn} (hold : s.port.heldOff = t :: rest)
    (reset : s.resetLine = false) (room : s.port.forwarded.length < 16) :
    s.takeHeld = State.accept t { s with port := { s.port with heldOff := rest } } := by
  have full : decide (Config.streamCapacity ≤ s.port.forwarded.length) = false :=
    decide_eq_false (Nat.not_le.2 room)
  simp [State.takeHeld, hold, reset, full, State.modPort]

theorem State.takeHeld_queue (s : State) : QueueStep s s.takeHeld := by
  by_cases h : s.port.heldOff = [] ∨ s.resetLine = true ∨ 16 ≤ s.port.forwarded.length
  · rw [State.takeHeld_of_blocked h]
    exact .refl s
  · simp only [not_or, Bool.not_eq_true, Nat.not_le] at h
    obtain ⟨held, reset, room⟩ := h
    obtain ⟨t, rest, e⟩ := List.exists_cons_of_ne_nil held
    rw [State.takeHeld_of_open e reset room]
    have taken : QueueStep s { s with port := { s.port with heldOff := rest } } := .ofSame rfl rfl rfl rfl rfl
    exact taken.trans (State.accept_queue t room)

theorem State.acceptHeld_queue (s : State) : QueueStep s s.acceptHeld := by
  have takes : ∀ (n : Nat) (s : State), QueueStep s (s.takesHeld n) := by
    intro n
    induction n with
    | zero => exact QueueStep.refl
    | succ n ih => exact fun s => s.takeHeld_queue.trans (ih _)
  exact takes _ s

/-! ### Watched words, issue and responses -/

theorem State.tailWrite_queue (value : Word32) (s : State) : QueueStep s (s.tailWrite value) := by
  unfold State.tailWrite
  split
  · exact s.modCtl_queue _
  · exact (s.offer_step _).queue

theorem State.consumerWrite_queue (value : Word32) (s : State) : QueueStep s (s.consumerWrite value) := by
  unfold State.consumerWrite
  dsimp only
  split
  · exact ⟨rfl, id, id, id, id, id⟩
  · exact (s.offer_step _).queue

theorem State.handOff_queue (word : WatchedWord) (cls : InitiatorClass) (value : Word32) (s : State) :
    QueueStep s (s.handOff word cls value) := by
  unfold State.handOff
  cases word
  case start =>
    dsimp only
    split
    · exact (s.modCtl_queue _).trans (State.place_queue _ _)
    · exact .refl s
  case orderTail =>
    dsimp only
    split
    · exact s.tailWrite_queue _
    · exact .refl s
  case reportConsumer =>
    dsimp only
    split
    · exact s.consumerWrite_queue _
    · exact .refl s

theorem State.handOffs_queue (f : Forwarded) (s : State) : QueueStep s (s.handOffs f) := by
  refine QueueStep.foldl _ (fun u w => ?_) _ s
  split
  · exact .refl u
  · exact u.handOff_queue _ _ _

theorem State.issueForwarded_queue (s : State) : QueueStep s s.issueForwarded := by
  unfold State.issueForwarded
  split
  · exact .refl s
  · rename_i f rest h
    refine (QueueStep.trans ?_ (State.handOffs_queue _ _)).trans (State.acceptHeld_queue _)
    refine ⟨rfl, fun hl => ?_, id, id, id, id⟩
    simp only [h, List.length_cons] at hl
    simp only [State.modPort_port, Port.send]
    omega

theorem State.issueOwn_queue (s : State) : QueueStep s s.issueOwn := by
  unfold State.issueOwn
  split
  · exact .refl s
  · rename_i x rest h
    refine ⟨rfl, id, fun hl => ?_, id, id, id⟩
    simp only [h, List.length_cons] at hl
    simp only [State.modPort_port, Port.send]
    omega

theorem execMemoryResponse_queue (mtag : Nat) (resp : Resp) (s : State) :
    ∃ t, execMemoryResponse mtag resp s = .next t ∧ QueueStep s t := by
  refine ⟨_, rfl, ?_⟩
  split
  · exact .refl s
  · split
    · exact .refl s
    · exact .ofSame rfl (Port.useFreeFor_forwarded _ _ _) (Port.useFreeFor_own _ _ _) rfl rfl

theorem execOwnTrafficPlace_queue (s : State) : ∃ t, execOwnTrafficPlace s = .next t ∧ QueueStep s t := by
  refine ⟨_, rfl, ?_⟩
  split
  · exact .refl s
  · split
    · rename_i room
      simp only [Config.ownCapacity] at room
      exact ⟨rfl, id, fun _ => by simpa using room, id, id, id⟩
    · exact .refl s

/-! ### Activation and PASSIVE entry -/

theorem State.rejectActivation_queue (reason : RejectReason) (check : Word32) (s : State) :
    QueueStep s (s.rejectActivation reason check) :=
  (s.modCtl_queue _).trans (State.place_queue _ _)

theorem State.activate_queue (f : SettingsFields) (check : Word32) (s : State) :
    QueueStep s (s.activate f check) := by
  unfold State.activate
  refine QueueStep.trans (QueueStep.trans (QueueStep.trans ?_ (State.place_queue _ _)) (State.place_queue _ _))
    (State.place_queue _ _)
  exact .ofEmpty rfl le_rfl id rfl rfl

theorem State.settingsLoaded_queue (resp : Resp) (s : State) : QueueStep s (s.settingsLoaded resp) := by
  unfold State.settingsLoaded
  split
  · exact s.rejectActivation_queue _ _
  · split
    · exact s.rejectActivation_queue _ _
    · exact s.activate_queue _ _

theorem State.passiveEntry_queue (s : State) : QueueStep s s.passiveEntry :=
  .ofEmpty rfl le_rfl (fun _ => Nat.zero_le 8) rfl rfl

theorem State.passiveIfAnswered_queue (s : State) : QueueStep s s.passiveIfAnswered := by
  unfold State.passiveIfAnswered
  split
  · exact s.passiveEntry_queue
  · exact .refl s

/-! ### Orders -/

theorem State.advanceHead_queue (s : State) : QueueStep s s.advanceHead :=
  (s.modCtl_queue _).trans (State.place_queue _ _)

/-- The reserved entry becomes an occupied one (R33). -/
theorem Poster.fillReserved_used {p : Poster} (r : Report) (h : p.reserved = true) :
    (p.fillReserved r).used = p.used := by
  simp [Poster.fillReserved, Poster.used, h]

/-- A change of the poster that leaves its used entries and the lost-notice count. -/
theorem State.modPoster_queue {f : Poster → Poster} {s : State} (used : (f s.poster).used = s.poster.used)
    (lost : (f s.poster).lost ≤ s.poster.lost) : QueueStep s (s.modPoster f) :=
  ⟨rfl, id, id, used.le.trans, lost.trans,
    Or.imp_right fun h => (congrArg (Config.holdCapacity - ·) used).trans h⟩

theorem State.answerOrder_queue (body : ReportBody) {s : State} (h : s.poster.reserved = true) :
    QueueStep s (s.answerOrder body) :=
  (State.modPoster_queue (Poster.fillReserved_used _ h) le_rfl).trans (State.advanceHead_queue _)

theorem BodyStep.queue {s t : State} (h : BodyStep s t) : QueueStep s t :=
  ⟨h.pending, by simp [h.port], by simp [h.port], h.used, h.lost, h.waits⟩

/-- An arriving order fetch finds its answer's entry reserved (R28). -/
theorem State.reserved_of_fetchIndex {s : State} {mtag index : Nat} (h : s.fetchIndex mtag = some index) :
    s.poster.reserved = true := by
  unfold State.fetchIndex at h
  split at h
  · by_cases c : (s.ctl.fetching && s.poster.reserved) = true
    · exact (Bool.and_eq_true_iff.1 c).2
    · simp [c] at h
  · cases h

theorem State.runOrder_queue {body : Nat → State → State × OrderReply} (hb : ∀ n s, BodyStep s (body n s).1)
    (code mtag : Nat) (entry : List Byte) (s : State) : QueueStep s (s.runOrder code mtag entry body) := by
  unfold State.runOrder
  split
  · exact .refl s
  · next index h =>
    have reserved := State.reserved_of_fetchIndex h
    split
    · refine (s.dropResponse_queue mtag).trans ?_
      split
      · have step := hb index (s.dropResponse mtag)
        exact step.queue.trans (State.answerOrder_queue _ (step.reserved.trans reserved))
      · exact State.answerOrder_queue _ reserved
    · exact .refl s

theorem State.halt_queue (entry : List Byte) (index : Nat) (s : State) : QueueStep s (s.halt entry index) :=
  ((s.modCtl_queue _).trans (State.advanceHead_queue _)).trans (State.haltBookings_step _).queue

theorem execHalt_queue (mtag : Nat) (entry : List Byte) (s : State) :
    ∃ t, execHalt mtag entry s = .next t ∧ QueueStep s t := by
  refine ⟨_, rfl, ?_⟩
  split
  · exact .refl s
  · next index h =>
    have reserved := State.reserved_of_fetchIndex h
    split
    · split
      · exact (s.dropResponse_queue mtag).trans (State.halt_queue _ _ _)
      · exact (s.dropResponse_queue mtag).trans (State.answerOrder_queue _ reserved)
    · exact .refl s

theorem execOrderFetchFault_queue (mtag : Nat) (s : State) :
    ∃ t, execOrderFetchFault mtag s = .next t ∧ QueueStep s t := by
  refine ⟨_, rfl, ?_⟩
  split
  · exact .refl s
  · next index h =>
    have reserved := State.reserved_of_fetchIndex h
    exact (s.dropResponse_queue mtag).trans (State.answerOrder_queue _ reserved)

theorem execUnknownOrderKind_queue (mtag : Nat) (entry : List Byte) (s : State) :
    ∃ t, execUnknownOrderKind mtag entry s = .next t ∧ QueueStep s t := by
  refine ⟨_, rfl, ?_⟩
  split
  · exact .refl s
  · next index h =>
    have reserved := State.reserved_of_fetchIndex h
    split
    · exact .refl s
    · exact (s.dropResponse_queue mtag).trans (State.answerOrder_queue _ reserved)

/-- ORDER_TAKE reserves an entry that was free, while no settlement waits (R28). -/
theorem execOrderTake_queue (s : State) : ∃ t, execOrderTake s = .next t ∧ QueueStep s t := by
  refine ⟨_, rfl, ?_⟩
  split
  · next takes =>
    refine QueueStep.trans ?_ (State.place_queue _ _)
    simp only [State.takesOrder, Bool.and_eq_true, List.isEmpty_iff, decide_eq_true_eq] at takes
    obtain ⟨⟨_, noSettlement⟩, free⟩ := takes
    refine ⟨rfl, id, id, fun _ => ?_, id, fun _ => Or.inl noSettlement⟩
    simp only [Poster.free, Config.holdCapacity] at free
    simp only [State.modPoster_poster, State.modCtl_poster, Poster.used, Bool.toNat_true]
    omega
  · exact .refl s

theorem execHaltCompletion_queue (s : State) : ∃ t, execHaltCompletion s = .next t ∧ QueueStep s t := by
  refine ⟨_, rfl, ?_⟩
  split
  · exact .refl s
  · next a _ =>
    split
    · next halted =>
      obtain ⟨_, _, reserved⟩ := halted
      exact (s.modCtl_queue _).trans (State.modPoster_queue (Poster.fillReserved_used a.report reserved) le_rfl)
    · exact .refl s

/-! ### Posting -/

theorem execReportWriteBegin_queue (s : State) : ∃ t, execReportWriteBegin s = .next t ∧ QueueStep s t := by
  refine ⟨_, rfl, ?_⟩
  split
  · split
    · exact (State.modPoster_queue rfl (Nat.zero_le _)).trans (State.place_queue _ _)
    · exact .refl s
  · exact .refl s

/-- The answered report leaves the hold queue (R38). -/
theorem Poster.answered_used (p : Poster) (x : Posting) (count : Nat) (okay : Bool) :
    (p.answered x count okay).used ≤ p.used := by
  cases okay <;> simp [Poster.answered, Poster.used]

theorem Poster.answered_lost (p : Poster) (x : Posting) (count : Nat) (okay : Bool) (h : p.lost ≤ 65535) :
    (p.answered x count okay).lost ≤ 65535 := by
  cases okay <;> simp [Poster.answered, Config.lostMax, h]

/-- Whatever freed entries of the hold queue, the settlements that wait then enter (R35). -/
theorem QueueStep.drain {s t : State} (pending : t.pending = s.pending)
    (forwarded : s.port.forwarded.length ≤ 16 → t.port.forwarded.length ≤ 16)
    (own : s.port.own.length ≤ 8 → t.port.own.length ≤ 8) (used : s.poster.used ≤ 16 → t.poster.used ≤ 16)
    (lost : s.poster.lost ≤ 65535 → t.poster.lost ≤ 65535) : QueueStep s t.drainSettlements :=
  have d := t.drainSettlements_step.queue
  ⟨d.pending.trans pending, d.forwarded ∘ forwarded, d.own ∘ own, d.used ∘ used, d.lost ∘ lost,
    fun _ => t.drainSettlements_waits⟩

theorem State.reportWritten_queue (r : Report) (x : Posting) (okay : Bool) (s : State) :
    QueueStep s (s.reportWritten r x okay) := by
  unfold State.reportWritten
  extract_lets s1 s2 s3 s4
  have h2 : QueueStep s1 s2 := by
    unfold s2
    split
    · exact s1.place_queue _
    · exact .refl s1
  have h3 : QueueStep s1 s3 := h2.trans (by
    unfold s3
    split
    · exact s2.modPath_queue _
    · exact .refl s2)
  have h4 : QueueStep s s4 := .drain h3.pending h3.forwarded h3.own
    (h3.used ∘ (Poster.answered_used _ _ _ _).trans) (h3.lost ∘ Poster.answered_lost _ _ _ _)
  split
  · exact h4.trans ((s4.modCtl_queue _).trans (State.place_queue _ _))
  · exact h4

theorem execReportWriteResponse_queue (mtag : Nat) (okay : Bool) (s : State) :
    ∃ t, execReportWriteResponse mtag okay s = .next t ∧ QueueStep s t := by
  refine ⟨_, rfl, ?_⟩
  split
  · split
    · exact (s.dropResponse_queue mtag).trans (State.reportWritten_queue _ _ _ _)
    · exact .refl s
  · exact .refl s

theorem Poster.publish_used (p : Poster) (mtag value : Nat) : (p.publish mtag value).used = p.used := by
  unfold Poster.publish; split <;> split <;> rfl

theorem Poster.publish_lost (p : Poster) (mtag value : Nat) : (p.publish mtag value).lost = p.lost := by
  unfold Poster.publish; split <;> split <;> rfl

theorem execHeadWordWriteResponse_queue (mtag : Nat) (okay : Bool) (s : State) :
    ∃ t, execHeadWordWriteResponse mtag okay s = .next t ∧ QueueStep s t := by
  refine ⟨_, rfl, ?_⟩
  split
  · refine ((s.dropResponse_queue mtag).trans (State.modPoster_queue ?_ ?_)).trans
      ((State.modCtl_queue _ _).trans (State.passiveIfAnswered_queue _))
    · exact Poster.publish_used _ _ _
    · exact (Poster.publish_lost _ _ _).le
  · exact .refl s

theorem execStatusWordWriteResponse_queue (mtag : Nat) (okay : Bool) (s : State) :
    ∃ t, execStatusWordWriteResponse mtag okay s = .next t ∧ QueueStep s t := by
  refine ⟨_, rfl, ?_⟩
  split
  · exact ((s.dropResponse_queue mtag).trans (State.modCtl_queue _ _)).trans (State.passiveIfAnswered_queue _)
  · exact s.dropResponse_queue mtag
  · exact .refl s

/-! ### House time -/

theorem State.tick_queue (s : State) : QueueStep s s.tick := by
  obtain ⟨_, takings⟩ := s.takeDue_spec
  rw [State.tick_eq]
  exact ((s.modTime_queue _).trans takings.queue).trans (State.modTime_queue _ _)

theorem State.takeRate_queue (s : State) : QueueStep s s.takeRate := by
  obtain ⟨_, taking⟩ := s.takeRate_spec
  exact (s.modTime_queue _).trans taking.queue

theorem State.edge_queue (s : State) : QueueStep s s.edge := by
  unfold State.edge
  split
  · exact s.modTime_queue _
  · exact s.tick_queue

/-- What every command does to the queues. -/
theorem exec_queue (c : Instr) (s : State) : ∃ t, exec c s = .next t ∧ QueueStep s t := by
  have whenRunning : ∀ t, QueueStep s t → QueueStep s (if s.time.running then t else s) := by
    intro t h
    split
    · exact h
    · exact .refl s
  cases c with
  | resetAssert => exact ⟨_, rfl, .ofEmpty rfl (Nat.zero_le _) (fun _ => Nat.zero_le _) rfl rfl⟩
  | resetRelease cpsel =>
    refine ⟨_, rfl, ?_⟩
    split
    · have released : QueueStep s { s with resetLine := false, path := PathState.reset cpsel } :=
        .ofSame rfl rfl rfl rfl rfl
      exact released.trans (State.acceptHeld_queue _)
    · exact .refl s
  | houseTick => exact ⟨_, rfl, whenRunning _ s.tick_queue⟩
  | systemPortTransaction t => exact ⟨_, rfl, s.present_queue t⟩
  | ingressWrite t => exact ⟨_, rfl, s.present_queue t⟩
  | headerRead t => exact ⟨_, rfl, s.present_queue t⟩
  | payloadRead t => exact ⟨_, rfl, s.present_queue t⟩
  | memoryPortIssue =>
    refine ⟨_, rfl, ?_⟩
    split
    · exact .refl s
    · exact s.issueForwarded_queue
    · exact s.issueOwn_queue
  | startWrite value =>
    refine ⟨_, rfl, ?_⟩
    split
    · exact .refl s
    · exact s.handOff_queue _ _ _
  | orderTailWrite cls value => exact ⟨_, rfl, s.handOff_queue _ _ _⟩
  | reportConsumerWrite cls value => exact ⟨_, rfl, s.handOff_queue _ _ _⟩
  | memoryResponse mtag resp => exact execMemoryResponse_queue mtag resp s
  | settingsLoadResponse mtag resp =>
    refine ⟨_, rfl, ?_⟩
    split
    · split
      · exact (s.dropResponse_queue mtag).trans (State.settingsLoaded_queue _ _)
      · exact .refl s
    · exact .refl s
  | ownTrafficPlace => exact execOwnTrafficPlace_queue s
  | orderTake => exact execOrderTake_queue s
  | orderFetchFault mtag => exact execOrderFetchFault_queue mtag s
  | defineSource mtag entry => exact ⟨_, rfl, State.runOrder_queue (defineSourceOrder_body entry) _ _ _ s⟩
  | clear mtag entry => exact ⟨_, rfl, State.runOrder_queue (clearOrder_body entry) _ _ _ s⟩
  | forceLeg mtag entry => exact ⟨_, rfl, State.runOrder_queue (forceLegOrder_body entry) _ _ _ s⟩
  | tariff mtag entry => exact ⟨_, rfl, State.runOrder_queue (tariffOrder_body entry) _ _ _ s⟩
  | book mtag entry => exact ⟨_, rfl, State.runOrder_queue (bookOrder_body entry) _ _ _ s⟩
  | extend mtag entry => exact ⟨_, rfl, State.runOrder_queue (extendOrder_body entry) _ _ _ s⟩
  | release mtag entry => exact ⟨_, rfl, State.runOrder_queue (releaseOrder_body entry) _ _ _ s⟩
  | cancel mtag entry => exact ⟨_, rfl, State.runOrder_queue (cancelOrder_body entry) _ _ _ s⟩
  | meter mtag entry => exact ⟨_, rfl, State.runOrder_queue (meterOrder_body entry) _ _ _ s⟩
  | defineWindow mtag entry => exact ⟨_, rfl, State.runOrder_queue (defineWindowOrder_body entry) _ _ _ s⟩
  | setTime mtag entry => exact ⟨_, rfl, State.runOrder_queue (setTimeOrder_body entry) _ _ _ s⟩
  | halt mtag entry => exact execHalt_queue mtag entry s
  | settlementEntry => exact ⟨_, rfl, s.settlementEnter_step.queue⟩
  | reportWriteBegin => exact execReportWriteBegin_queue s
  | reportWriteResponse mtag okay => exact execReportWriteResponse_queue mtag okay s
  | headWordWriteResponse mtag okay => exact execHeadWordWriteResponse_queue mtag okay s
  | statusWordWriteResponse mtag okay => exact execStatusWordWriteResponse_queue mtag okay s
  | haltCompletion => exact execHaltCompletion_queue s
  | rateIntervalExpiry => exact ⟨_, rfl, s.takeRate_queue⟩
  | silenceExpiry src => exact ⟨_, rfl, (s.takeSilence_step src).queue⟩
  | waitToRestoreExpiry b => exact ⟨_, rfl, (s.takeRestore_step b).queue⟩
  | prerollExpiry b => exact ⟨_, rfl, (s.takePreroll_step b).queue⟩
  | lineCheckWaitExpiry b => exact ⟨_, rfl, (s.takeLineWait_step b).queue⟩
  | startExpiry b => exact ⟨_, rfl, (s.takeStart_step b).queue⟩
  | endExpiry b => exact ⟨_, rfl, (s.takeEnd_step b).queue⟩
  | overrunCapExpiry b => exact ⟨_, rfl, (s.takeCap_step b).queue⟩
  | refclkEdge => exact ⟨_, rfl, whenRunning _ s.edge_queue⟩
  | unknownOrderKind mtag entry => exact execUnknownOrderKind_queue mtag entry s

/-- A step keeps the queues' sizes and the waiting of settlements, as the command it runs does. -/
theorem step_keeps_queues {s t : State} (h : step s = .next t) :
    (s.queuesBounded → t.queuesBounded) ∧ (s.settlementsWait → t.settlementsWait) := by
  unfold step at h
  split at h
  · cases h
    exact ⟨id, id⟩
  · next c rest _ =>
    obtain ⟨u, hu, q⟩ := exec_queue c { s with pending := rest }
    cases hu.symm.trans h
    exact ⟨fun ⟨forwarded, own, used, lost⟩ =>
      ⟨q.forwarded forwarded, q.own own, q.used used, q.lost lost⟩, q.waits⟩

/-- Settles O52, by what every command does to the queues. -/
theorem queuesStayBoundedAndSettlementsWait : Obligations.QueuesStayBoundedAndSettlementsWait :=
  ⟨fun _ _ bounded h => (step_keeps_queues h).1 bounded, fun _ _ wait h => (step_keeps_queues h).2 wait⟩

end Sys2Proof.Machine

namespace Sys2Proof.Machine

/-! ## RESET and the system port (R3 to R8, R13, R14, R16, R19) -/

/-! ### The system port takes a transaction -/

/-- The four rows that name a transaction present it alike (log 6). -/
theorem exec_of_presents {t : Txn} {c : Instr} (h : presents t c) (s : State) :
    exec c s = .next (s.present t) := by
  rcases h with rfl | rfl | rfl | rfl <;> rfl

theorem State.present_of_decodes {s : State} {t : Txn} {d : Decoded} (h : s.decodes t d) :
    s.present t = s.accept t := State.present_of_taken t h.1

/-- In the forwarding mode every transaction enters the stream (R3). -/
theorem State.accept_of_forwarding {s : State} (t : Txn) (h : s.decoding = false) :
    s.accept t = s.entered { txn := t, cls := .other, rewrite := none } := by
  simp [State.accept, h, State.forward, State.modPort, Port.forward, State.entered]

theorem State.accept_of_forward {s : State} {t : Txn} (h : s.decodes t .forward) :
    s.accept t = s.entered { txn := t, cls := s.path.classMap[t.id], rewrite := none } := by
  obtain ⟨_, decoding, decoded⟩ := h
  simp only [State.accept, decoding, if_true, decoded]
  rfl

theorem State.accept_of_translate {s : State} {t : Txn} {i : Fin 32} {k off : Nat}
    (h : s.decodes t (.translate i k off)) : s.accept t = s.windowRead t i k off := by
  obtain ⟨_, decoding, decoded⟩ := h
  simp only [State.accept, decoding, if_true, decoded]

theorem State.accept_of_refuse {s : State} {t : Txn} {kind : StrayKind} (h : s.decodes t (.refuse kind)) :
    s.accept t = s.refuse t kind := by
  obtain ⟨_, decoding, decoded⟩ := h
  simp only [State.accept, decoding, if_true, decoded]

theorem State.decoding_eq_false_iff (s : State) :
    s.decoding = false ↔ s.ctl.act = .passive ∨ s.ctl.act = .loading := by
  unfold State.decoding
  cases s.ctl.act <;> simp

theorem State.decoding_eq_true_iff (s : State) :
    s.decoding = true ↔ s.ctl.act = .active ∨ s.ctl.act = .halting := by
  unfold State.decoding
  cases s.ctl.act <;> simp

/-- Settles O10: the port takes a transaction or holds it off, and forwards what the mode or the decode says. -/
theorem forwardedTrafficEntersTheStream : Obligations.ForwardedTrafficEntersTheStream := by
  refine ⟨fun t c s hc => ⟨fun taken mode => ?_, fun held => ?_, fun full => ?_⟩, fun t c s hc hd => ?_⟩
  · rw [exec_of_presents hc, State.present_of_taken t taken,
      State.accept_of_forwarding t (s.decoding_eq_false_iff.2 mode)]
  · rw [exec_of_presents hc, State.present_of_heldOff t held]
  · rw [← Bool.not_eq_false, State.holdsOff_eq_false_iff]
    exact fun ⟨_, _, room⟩ => absurd full (Nat.not_le.2 room)
  · rw [exec_of_presents hc, State.present_of_decodes hd, State.accept_of_forward hd]

/-! ### A refused transaction (R13, R14) -/

/-- A refusal raises its own count, which holds at its maximum, and no other (R13). -/
theorem strayCount_bump (c : StrayCounts) (kind k : StrayKind) :
    strayCount (c.bump kind) k =
      if k = kind then min 4294967295 (strayCount c k + 1) else strayCount c k := by
  cases kind <;> cases k <;> rfl

theorem State.refuse_of_outstanding {s : State} (t : Txn) (kind : StrayKind)
    (h : s.path.stray.outstanding = true) :
    s.refuse t kind = { s.answered t .fault with
      path := { s.path with stray := s.path.stray.count kind t.id t.addr } } := by
  simp [State.refuse, StrayMonitor.count, h, State.answer, State.modPort, State.modPath, Port.answer,
    State.answered]

theorem State.refuse_of_not_outstanding {s : State} (t : Txn) (kind : StrayKind)
    (h : s.path.stray.outstanding = false) :
    s.refuse t kind = State.offer
      (.stray { kind, id := t.id, addr := t.addr, counts := s.path.stray.counts.bump kind })
      { s.answered t .fault with
        path := { s.path with
          stray := { s.path.stray.count kind t.id t.addr with outstanding := s.poster.accepts } } } := by
  simp [State.refuse, StrayMonitor.count, h, State.answer, State.modPort, State.modPath, Port.answer,
    State.answered]

/-- Settles O12: the decode's refusal is counted, and its notice waits on the flag. -/
theorem refusedTransactionIsCounted : Obligations.RefusedTransactionIsCounted := by
  intro t c s kind hc hd
  refine ⟨s.path.stray.counts.bump kind, s.refuse t kind, ?_, strayCount_bump _ kind,
    State.refuse_of_outstanding t kind, State.refuse_of_not_outstanding t kind⟩
  rw [exec_of_presents hc, State.present_of_decodes hd, State.accept_of_refuse hd]

/-! ### The decode (Table 1-1) -/

/-- A range that is neither inside nor outside a region crosses its boundary (R6). -/
theorem crosses_some_iff (b z a n : Nat) :
    crosses (some { base := b, size := z }) a n = true ↔
      ¬(b ≤ a ∧ a + n ≤ b + z) ∧ ¬(a + n ≤ b ∨ b + z ≤ a) := by
  simp only [crosses, meets, contains, Region.meets, Region.contains, Bool.and_eq_true, Bool.not_eq_true',
    decide_eq_true_eq, Bool.and_eq_false_iff, decide_eq_false_iff_not]
  omega

theorem contains_some_iff (b z a n : Nat) :
    contains (some { base := b, size := z }) a n = true ↔ b ≤ a ∧ a + n ≤ b + z := by
  simp [contains, Region.contains]

/-- The ring regions of `s` are `[ib, ib + iz)` and `[db, db + dz)`. -/
structure State.HasRings (s : State) (ib iz db dz : Nat) : Prop where
  ingress : s.path.ingress = some { base := ib, size := iz }
  delivery : s.path.delivery = some { base := db, size := dz }

section Decode

variable {s : State} {ib iz db dz : Nat} (rings : s.HasRings ib iz db dz) (t : Txn) (cls : InitiatorClass)

include rings

theorem State.decode_of_boundary
    (h : (¬(ib ≤ t.addr ∧ t.addr + t.access.length ≤ ib + iz) ∧
          ¬(t.addr + t.access.length ≤ ib ∨ ib + iz ≤ t.addr)) ∨
        (¬(db ≤ t.addr ∧ t.addr + t.access.length ≤ db + dz) ∧
          ¬(t.addr + t.access.length ≤ db ∨ db + dz ≤ t.addr))) :
    s.decode t cls = .refuse .boundary := by
  rw [← crosses_some_iff, ← crosses_some_iff, ← rings.ingress, ← rings.delivery] at h
  exact if_pos (Bool.or_eq_true_iff.2 h)

/-- Where neither region's boundary is crossed, the region that contains the range decides. -/
theorem State.decode_of_no_boundary
    (hi : (ib ≤ t.addr ∧ t.addr + t.access.length ≤ ib + iz) ∨
      t.addr + t.access.length ≤ ib ∨ ib + iz ≤ t.addr)
    (hd : (db ≤ t.addr ∧ t.addr + t.access.length ≤ db + dz) ∨
      t.addr + t.access.length ≤ db ∨ db + dz ≤ t.addr) :
    s.decode t cls =
      if ib ≤ t.addr ∧ t.addr + t.access.length ≤ ib + iz then
        decodeIngress s.ctl.settings (slotPlace ib s.ctl.settings.z t.addr) cls t.access
      else if db ≤ t.addr ∧ t.addr + t.access.length ≤ db + dz then
        decodeDelivery s.ctl.settings (slotPlace db s.ctl.settings.z t.addr) cls t.access
      else .forward := by
  have inside : ¬((crosses s.path.ingress t.addr t.access.length ||
      crosses s.path.delivery t.addr t.access.length) = true) := by
    rw [Bool.or_eq_true, rings.ingress, rings.delivery, crosses_some_iff, crosses_some_iff]
    tauto
  rw [State.decode, if_neg inside]
  simp only [rings.ingress, rings.delivery, contains_some_iff, regionBase]

end Decode

/-- The place of an address inside a ring region of `c` rings of `d` slots of `z` bytes (R4). -/
theorem slotPlace_address {b c d z a : Nat} (hd : 0 < d) (h1 : b ≤ a) (h2 : a < b + c * d * z) :
    (slotPlace b z a).slot / d < c ∧ (slotPlace b z a).slot % d < d ∧
      a = b + ((slotPlace b z a).slot / d * d + (slotPlace b z a).slot % d) * z + (slotPlace b z a).off := by
  refine ⟨?_, Nat.mod_lt _ hd, ?_⟩
  · rw [Nat.div_lt_iff_lt_mul hd]
    exact Nat.div_lt_of_lt_mul (by rw [Nat.mul_comm z]; omega)
  · have slots : (slotPlace b z a).slot / d * d + (slotPlace b z a).slot % d = (a - b) / z := Nat.div_add_mod' _ _
    have place : (a - b) / z * z + (slotPlace b z a).off = a - b := Nat.div_add_mod' _ _
    rw [slots]
    omega

/-- A slot of the ingress region belongs to one of its 48 rings (R4, log 27). -/
theorem decodeIngress_inside {g : Settings} {b a : Nat} {access : Access} (hd : 0 < g.d)
    (hw : access.isWrite = true) (h1 : b ≤ a) (h2 : a < b + 48 * g.d * g.z)
    (slot : (a - b) % g.z + access.length ≤ g.z) :
    ∃ src k off, decodeIngress g (slotPlace b g.z a) .ingress access = .check src k off ∧ k < g.d ∧
      a = b + (src.val * g.d + k) * g.z + off ∧ off + access.length ≤ g.z := by
  obtain ⟨hc, hk, ha⟩ := slotPlace_address hd h1 h2
  refine ⟨Fin.ofNat 48 ((slotPlace b g.z a).slot / g.d), _, _, ?_, hk, ?_, slot⟩
  · simp only [decodeIngress, hw, SlotPlace.oneSlot]
    exact if_pos (decide_eq_true slot)
  · rw [Fin.val_ofNat, Nat.mod_eq_of_lt hc]
    exact ha

/-- A slot of the delivery region belongs to one of its 32 windows (R4, log 27). -/
theorem decodeDelivery_inside {g : Settings} {b a : Nat} {access : Access} (hd : 0 < g.d)
    (hw : access.isWrite = false) (h1 : b ≤ a) (h2 : a < b + 32 * g.d * g.z)
    (slot : (a - b) % g.z + access.length ≤ g.z) :
    ∃ w k off, decodeDelivery g (slotPlace b g.z a) .egress access = .translate w k off ∧ k < g.d ∧
      a = b + (w.val * g.d + k) * g.z + off ∧ off + access.length ≤ g.z := by
  obtain ⟨hc, hk, ha⟩ := slotPlace_address hd h1 h2
  refine ⟨Fin.ofNat 32 ((slotPlace b g.z a).slot / g.d), _, _, ?_, hk, ?_, slot⟩
  · simp only [decodeDelivery, hw, SlotPlace.oneSlot]
    exact if_pos (decide_eq_true slot)
  · rw [Fin.val_ofNat, Nat.mod_eq_of_lt hc]
    exact ha

theorem decodeIngress_span {g : Settings} {p : SlotPlace} {access : Access} (hw : access.isWrite = true)
    (h : g.z < p.off + access.length) : decodeIngress g p .ingress access = .refuse .span := by
  simp [decodeIngress, hw, SlotPlace.oneSlot, h]

theorem decodeIngress_write {g : Settings} {p : SlotPlace} {access : Access} {cls : InitiatorClass}
    (hw : access.isWrite = true) (hc : cls ≠ .ingress) : decodeIngress g p cls access = .refuse .ingressWrite := by
  cases cls <;> simp_all [decodeIngress]

theorem decodeIngress_read {g : Settings} {p : SlotPlace} {access : Access} (hw : access.isWrite = false) :
    decodeIngress g p .egress access = .refuse .ingressRead := by
  simp [decodeIngress, hw]

theorem decodeIngress_forward {g : Settings} {p : SlotPlace} {access : Access} {cls : InitiatorClass}
    (hw : access.isWrite = false) (hc : cls ≠ .egress) : decodeIngress g p cls access = .forward := by
  cases cls <;> simp_all [decodeIngress]

theorem decodeDelivery_write {g : Settings} {p : SlotPlace} {access : Access} (cls : InitiatorClass)
    (hw : access.isWrite = true) : decodeDelivery g p cls access = .refuse .deliveryWrite := by
  simp [decodeDelivery, hw]

theorem decodeDelivery_read {g : Settings} {p : SlotPlace} {access : Access} {cls : InitiatorClass}
    (hw : access.isWrite = false) (hc : cls ≠ .egress) :
    decodeDelivery g p cls access = .refuse .deliveryRead := by
  cases cls <;> simp_all [decodeDelivery]

theorem decodeDelivery_span {g : Settings} {p : SlotPlace} {access : Access} (hw : access.isWrite = false)
    (h : g.z < p.off + access.length) : decodeDelivery g p .egress access = .refuse .span := by
  simp [decodeDelivery, hw, SlotPlace.oneSlot, h]

/-- Settles O11: the boundary first, then the region that contains the range, whose own rows decide. -/
theorem decodeFollowsTheTable : Obligations.DecodeFollowsTheTable := by
  intro s t cls ib db hd _ hn hi hdel apart d z a e inI inD outI outD
  have rings : s.HasRings ib (48 * d * z) db (32 * d * z) := ⟨hi, hdel⟩
  change ib + 48 * d * z ≤ db ∨ db + 32 * d * z ≤ ib at apart
  have ingress : inI → s.decode t cls = decodeIngress s.ctl.settings (slotPlace ib z a) cls t.access := by
    intro h
    have hD : outD := by omega
    rw [State.decode_of_no_boundary rings t cls (.inl h) (.inr hD), if_pos h]
  have delivery : inD → s.decode t cls = decodeDelivery s.ctl.settings (slotPlace db z a) cls t.access := by
    intro h
    have hI : outI := by omega
    rw [State.decode_of_no_boundary rings t cls (.inr hI) (.inl h), if_neg (by omega), if_pos h]
  refine ⟨State.decode_of_boundary rings t cls, ?_, ?_, ?_, ?_, ?_, ?_, ?_, ?_, ?_, ?_⟩
  · rintro ⟨hI, hD⟩
    rw [State.decode_of_no_boundary rings t cls (.inr hI) (.inr hD), if_neg (by omega), if_neg (by omega)]
  · rintro h hw rfl slot
    rw [ingress h]
    have below : a < ib + 48 * d * z := by omega
    exact decodeIngress_inside hd hw h.1 below slot
  · rintro h hw rfl span
    rw [ingress h, decodeIngress_span hw span]
  · intro h hw hc
    rw [ingress h, decodeIngress_write hw hc]
  · rintro h hw rfl
    rw [ingress h, decodeIngress_read hw]
  · intro h hw hc
    rw [ingress h, decodeIngress_forward hw hc]
  · intro h hw
    rw [delivery h, decodeDelivery_write cls hw]
  · intro h hw hc
    rw [delivery h, decodeDelivery_read hw hc]
  · rintro h hw rfl span
    rw [delivery h, decodeDelivery_span hw span]
  · rintro h hw rfl slot
    rw [delivery h]
    have below : a < db + 32 * d * z := by omega
    exact decodeDelivery_inside hd hw h.1 below slot

/-! ### RESET (R19) -/

/-- The answers of RESET are FAULTs. -/
theorem Port.resetAnswers_fault {p : Port} {a : Answer} (h : a ∈ p.resetAnswers) : a.resp = .fault := by
  rcases List.mem_append.1 h with h | h
  · obtain ⟨o, _, ho⟩ := List.mem_filterMap.1 h
    unfold Outstanding.resetAnswer at ho
    split at ho
    · cases ho
      rfl
    · cases ho
  · obtain ⟨f, _, rfl⟩ := List.mem_map.1 h
    rfl

/-- RESET answers each issued transaction of the system port and each forwarded one, once. -/
theorem Port.resetAnswers_length (p : Port) :
    p.resetAnswers.length = (p.outstanding.filter fun o => !o.purpose.isOwn).length + p.forwarded.length := by
  have answered : ∀ o : Outstanding, o.resetAnswer.isSome = !o.purpose.isOwn := by
    intro o
    unfold Outstanding.resetAnswer
    cases o.purpose <;> rfl
  simp only [Port.resetAnswers, List.length_append, List.length_map, List.length_filterMap_eq_countP, answered,
    List.countP_eq_length_filter]

theorem Port.mem_resetAnswers_of_outstanding {p : Port} {o : Outstanding} (h : o ∈ p.outstanding) {id : Fin 16}
    {tag : Nat} {rw : Option Rewrite} (hp : o.purpose = .system id tag rw) :
    ({ id, tag, resp := .fault } : Answer) ∈ p.resetAnswers :=
  List.mem_append_left _ (List.mem_filterMap.2 ⟨o, h, by simp [Outstanding.resetAnswer, hp]⟩)

theorem Port.mem_resetAnswers_of_forwarded {p : Port} {f : Forwarded} (h : f ∈ p.forwarded) :
    ({ id := f.txn.id, tag := f.txn.tag, resp := .fault } : Answer) ∈ p.resetAnswers :=
  List.mem_append_right _ (List.mem_map_of_mem h)

/-- A response that matches no transaction is discarded (R19, R45). -/
theorem execMemoryResponse_of_find_none {s : State} {mtag : Nat} (r : Resp) (h : s.port.find mtag = none) :
    exec (.memoryResponse mtag r) s = .next s := by
  simp [exec, execMemoryResponse, h]

/-- Settles O4: the next state is that of reset but for the queue, the RESET line and the answers. -/
theorem resetAssertReturnsResetValues : Obligations.ResetAssertReturnsResetValues := by
  refine ⟨fun s => ⟨_, rfl, rfl, rfl, rfl, rfl, rfl, rfl, rfl, rfl, rfl, rfl, rfl, rfl, rfl, ?_, rfl, ?_, ?_, ?_, ?_,
    rfl, rfl, rfl, rfl, rfl, rfl, rfl, rfl, rfl⟩, fun s t ht => ?_⟩
  · exact fun id => Vector.getElem_replicate _
  · exact fun i => ⟨Vector.getElem_replicate _, Vector.getElem_replicate _, Vector.getElem_replicate _⟩
  · exact fun c => Vector.getElem_replicate _
  · exact fun i => ⟨Vector.getElem_replicate _, Vector.getElem_replicate _⟩
  · exact fun w => ⟨Vector.getElem_replicate _, Vector.getElem_replicate _⟩
  · cases ht
    exact ⟨⟨s.port.resetAnswers, rfl, fun _ => Port.resetAnswers_fault, s.port.resetAnswers_length,
      fun _ ho _ _ _ => Port.mem_resetAnswers_of_outstanding ho, fun _ => Port.mem_resetAnswers_of_forwarded⟩,
      fun _ r => execMemoryResponse_of_find_none r rfl⟩

/-- Without ring regions the decode forwards every transaction. -/
theorem State.accept_of_no_rings {s : State} (t : Txn) (hi : s.path.ingress = none)
    (hd : s.path.delivery = none) : ∃ f, s.accept t = s.forward f := by
  cases mode : s.decoding with
  | false => exact ⟨_, s.accept_of_forwarding t mode⟩
  | true =>
    have decoded : s.decode t s.path.classMap[t.id] = .forward := by
      simp [State.decode, hi, hd, crosses, meets, contains]
    simp only [State.accept, mode, if_true, decoded]
    exact ⟨_, rfl⟩

/-- Without ring regions the acceptance of transactions held off changes the ports alone. -/
theorem State.acceptHeld_of_no_rings {s : State} (hi : s.path.ingress = none) (hd : s.path.delivery = none) :
    ∃ p, s.acceptHeld = { s with port := p } := by
  have takes : ∀ (n : Nat) (p : Port), ∃ q, State.takesHeld n { s with port := p } = { s with port := q } := by
    intro n
    induction n with
    | zero => exact fun p => ⟨p, rfl⟩
    | succ n ih =>
      intro p
      obtain ⟨q, hq⟩ : ∃ q, State.takeHeld { s with port := p } = { s with port := q } := by
        unfold State.takeHeld
        split
        · exact ⟨p, rfl⟩
        · split
          · exact ⟨p, rfl⟩
          · obtain ⟨f, hf⟩ := State.accept_of_no_rings (s := { s with port := { p with heldOff := _ } }) _ hi hd
            exact ⟨_, hf⟩
      obtain ⟨r, hr⟩ := ih q
      exact ⟨r, by rw [State.takesHeld, hq, hr]⟩
  exact takes _ s.port

theorem State.acceptHeld_of_nil {s : State} (h : s.port.heldOff = []) : s.acceptHeld = s := by
  simp [State.acceptHeld, h, State.takesHeld]

/-- RESET_RELEASE while RESET is asserted (R19). -/
theorem execResetRelease_of_asserted (cpsel : Fin 16) {s : State} (h : s.resetLine = true) :
    exec (.resetRelease cpsel) s =
      .next (State.acceptHeld { s with resetLine := false, path := PathState.reset cpsel }) := by
  simp [exec, execResetRelease, h]

/-- Settles O5: after the release no ring region is present, so what was held off is forwarded. -/
theorem resetReleaseSamplesTheStraps : Obligations.ResetReleaseSamplesTheStraps := by
  refine fun cpsel s => ⟨fun asserted => ?_, fun asserted noneHeld => ?_, fun released => ?_⟩
  · obtain ⟨p, hp⟩ := State.acceptHeld_of_no_rings
      (s := { s with resetLine := false, path := PathState.reset cpsel }) rfl rfl
    rw [execResetRelease_of_asserted cpsel asserted, hp]
    exact ⟨_, rfl, rfl, rfl, rfl, rfl, rfl⟩
  · rw [execResetRelease_of_asserted cpsel asserted,
      State.acceptHeld_of_nil (s := { s with resetLine := false, path := PathState.reset cpsel }) noneHeld]
    rfl
  · simp [exec, execResetRelease, released]

end Sys2Proof.Machine

namespace Sys2Proof.Machine

/-! ## The memory port (R2, R9, R10, R12, R16 to R18) -/

/-! ### Transactions held off (R16) -/

theorem Port.useFree_heldOff (n : Nat) (p : Port) : (p.useFree n).heldOff = p.heldOff := by
  rw [Port.useFree_eq]

theorem State.answerFill_heldOff (t : Txn) (i : Fin 32) (k : Nat) (w : Window) (reason : FillReason) (s : State) :
    (s.answerFill t i k w reason).port.heldOff = s.port.heldOff := by
  have fed : ∀ x : Window, ((s.putWindow i x).feedHolder w.holder Meter.fill).port = s.port := fun x =>
    ((s.putWindow_step i x).trans (State.feedHolder_step _ _ _)).port
  cases reason <;> simp [State.answerFill, Port.useFree_heldOff, Port.answer, fed]

theorem State.answerDeliver_heldOff (t : Txn) (i : Fin 32) (k : Nat) (w : Window) (leg : LegName) (src : Fin 48)
    (m : Nat) (e : SlotEntry) (s : State) : (s.answerDeliver t i k w leg src m e).port.heldOff = s.port.heldOff := by
  have fed := (s.putWindow_step i (w.deliver s.ctl.settings.d k leg src m e).advance).trans
    (State.feedHolder_step w.holder (fun x => x.deliver e.len (distance e.seq w.last)) _)
  simp [State.answerDeliver, State.forward, Port.forward, fed.port]

theorem State.windowRead_heldOff (t : Txn) (w : Fin 32) (k off : Nat) (s : State) :
    (s.windowRead t w k off).port.heldOff = s.port.heldOff := by
  unfold State.windowRead State.windowHeaderRead State.windowPayloadRead
  split
  · split
    · exact s.answerFill_heldOff _ _ _ _ _
    · exact s.answerDeliver_heldOff _ _ _ _ _ _ _ _
  · split <;> rfl

theorem State.refuse_heldOff (t : Txn) (kind : StrayKind) (s : State) :
    (s.refuse t kind).port.heldOff = s.port.heldOff := by
  cases h : s.path.stray.outstanding
  · rw [State.refuse_of_not_outstanding t kind h]
    rfl
  · rw [State.refuse_of_outstanding t kind h]
    rfl

/-- Accepting a transaction leaves those held off behind it. -/
theorem State.accept_heldOff (t : Txn) (s : State) : (s.accept t).port.heldOff = s.port.heldOff := by
  unfold State.accept
  dsimp only
  split
  · split
    · rfl
    · rw [(State.ingress_step _ _ _ _ _).port]
      rfl
    · exact s.windowRead_heldOff _ _ _ _
    · exact s.refuse_heldOff _ _
  · rfl

theorem State.takesHeld_of_blocked {s : State}
    (h : s.port.heldOff = [] ∨ s.resetLine = true ∨ 16 ≤ s.port.forwarded.length) (n : Nat) :
    s.takesHeld n = s := by
  induction n with
  | zero => rfl
  | succ n ih => rw [State.takesHeld, State.takeHeld_of_blocked h, ih]

theorem State.acceptHeld_of_blocked {s : State}
    (h : s.port.heldOff = [] ∨ s.resetLine = true ∨ 16 ≤ s.port.forwarded.length) : s.acceptHeld = s :=
  State.takesHeld_of_blocked h _

theorem State.acceptHeld_of_open {s : State} {t : Txn} {rest : List Txn} (hold : s.port.heldOff = t :: rest)
    (reset : s.resetLine = false) (room : s.port.forwarded.length < 16) :
    s.acceptHeld = State.acceptHeld (State.accept t { s with port := { s.port with heldOff := rest } }) := by
  rw [State.acceptHeld, hold, List.length_cons, State.takesHeld, State.takeHeld_of_open hold reset room,
    State.acceptHeld, State.accept_heldOff]

/-! ### The arbiter and the own-traffic queue (R17, R18) -/

theorem Port.arbitrate_idle {p : Port} (hf : p.forwarded = []) (ho : p.own = []) : p.arbitrate = none := by
  simp [Port.arbitrate, hf, ho]

theorem Port.arbitrate_own {p : Port} {x : OwnTxn} {rest : List OwnTxn} (ho : p.own = x :: rest)
    (h : p.forwarded = [] ∨ p.lastServed = .forwarded) : p.arbitrate = some .own := by
  rcases h with hf | hl
  · simp [Port.arbitrate, hf, ho]
  · cases hf : p.forwarded <;> simp [Port.arbitrate, hf, ho, hl]

theorem Port.arbitrate_forwarded {p : Port} {f : Forwarded} {rest : List Forwarded} (hf : p.forwarded = f :: rest)
    (h : p.own = [] ∨ p.lastServed = .own) : p.arbitrate = some .forwarded := by
  rcases h with ho | hl
  · simp [Port.arbitrate, hf, ho]
  · cases ho : p.own <;> simp [Port.arbitrate, hf, ho, hl]

/-- MEMORY_PORT_ISSUE, by the arbiter's choice. -/
theorem execMemoryPortIssue_idle {s : State} (h : s.port.arbitrate = none) : exec .memoryPortIssue s = .next s := by
  simp [exec, execMemoryPortIssue, h]

theorem execMemoryPortIssue_own {s : State} (h : s.port.arbitrate = some .own) :
    exec .memoryPortIssue s = .next s.issueOwn := by
  simp [exec, execMemoryPortIssue, h]

theorem execMemoryPortIssue_forwarded {s : State} (h : s.port.arbitrate = some .forwarded) :
    exec .memoryPortIssue s = .next s.issueForwarded := by
  simp [exec, execMemoryPortIssue, h]

theorem State.issueOwn_of_cons {s : State} {x : OwnTxn} {rest : List OwnTxn} (h : s.port.own = x :: rest) :
    s.issueOwn = { s with
      port := { s.port with
        own := rest, lastServed := .own, nextTag := s.port.nextTag + 1
        outstanding := s.port.outstanding ++
          [{ mtag := s.port.nextTag, addr := x.addr, access := x.access, purpose := .own x.purpose }] } } := by
  simp [State.issueOwn, h, Port.send, State.modPort]

theorem State.issueForwarded_of_cons {s : State} {f : Forwarded} {rest : List Forwarded}
    (h : s.port.forwarded = f :: rest) :
    s.issueForwarded = State.acceptHeld (State.handOffs f { s with
      port := { s.port with
        forwarded := rest, lastServed := .forwarded, nextTag := s.port.nextTag + 1
        outstanding := s.port.outstanding ++
          [{ mtag := s.port.nextTag, addr := f.txn.addr, access := f.txn.access,
             purpose := .system f.txn.id f.txn.tag f.rewrite }] } }) := by
  simp [State.issueForwarded, h, Port.send, State.modPort]

/-- An entry of own traffic joins the queue, where it has room and no block waits (R17). -/
theorem State.place_of_room {s : State} (x : OwnTxn) (room : s.port.own.length < 8)
    (alone : s.port.ownWaiting = []) :
    s.place x = { s with port := { s.port with own := s.port.own ++ [x] } } := by
  have c : decide (s.port.own.length < Config.ownCapacity) = true := decide_eq_true room
  simp [State.place, State.modPort, Port.place, c, alone]

theorem State.place_of_wait {s : State} (x : OwnTxn) (h : 8 ≤ s.port.own.length ∨ s.port.ownWaiting ≠ []) :
    s.place x = { s with port := { s.port with ownWaiting := s.port.ownWaiting ++ [x] } } := by
  have c : ¬(s.port.own.length < Config.ownCapacity ∧ s.port.ownWaiting = []) := by
    rintro ⟨room, alone⟩
    rcases h with full | waiting
    · exact absurd room (Nat.not_lt.2 full)
    · exact waiting alone
  simp [State.place, State.modPort, Port.place, c]

theorem execOwnTrafficPlace_of_room {s : State} {x : OwnTxn} {rest : List OwnTxn}
    (h : s.port.ownWaiting = x :: rest) (room : s.port.own.length < 8) :
    exec .ownTrafficPlace s =
      .next { s with port := { s.port with own := s.port.own ++ [x], ownWaiting := rest } } := by
  have c : s.port.own.length < Config.ownCapacity := room
  simp [exec, execOwnTrafficPlace, h, c, State.modPort]

theorem execOwnTrafficPlace_of_none {s : State} (h : s.port.ownWaiting = [] ∨ 8 ≤ s.port.own.length) :
    exec .ownTrafficPlace s = .next s := by
  cases hw : s.port.ownWaiting with
  | nil => simp [exec, execOwnTrafficPlace, hw]
  | cons x rest =>
    have full : ¬s.port.own.length < Config.ownCapacity := Nat.not_lt.2 (h.resolve_left (by simp [hw]))
    simp [exec, execOwnTrafficPlace, hw, full]

/-- Settles O20: the arbiter's choice, then the stream that is served. -/
theorem memoryPortIssueAlternates : Obligations.MemoryPortIssueAlternates := by
  refine ⟨fun s => ⟨fun hf ho => ?_, fun x rest ho h => ?_, fun f rest hf h => ?_, State.acceptHeld_of_blocked,
    fun t rest => State.acceptHeld_of_open⟩, fun s x => ⟨State.place_of_room x, State.place_of_wait x,
    fun rest => execOwnTrafficPlace_of_room, execOwnTrafficPlace_of_none⟩⟩
  · rw [execMemoryPortIssue_idle (Port.arbitrate_idle hf ho)]
  · rw [execMemoryPortIssue_own (Port.arbitrate_own ho h), State.issueOwn_of_cons ho]
  · rw [execMemoryPortIssue_forwarded (Port.arbitrate_forwarded hf h), State.issueForwarded_of_cons hf]

/-! ### Watched words at an issue (R12) -/

/-- A write of `bytes` from `start` on covers the word at `a` with all four bytes (R12, log 11). -/
def CoversWord (start : Nat) (bytes : List (Byte × Bool)) (a : Nat) : Prop :=
  start ≤ a ∧ a + 4 ≤ start + bytes.length ∧ ∀ j < 4, (bytes[a - start + j]?.map fun b => b.2) = some true

/-- Four bytes from `k` on are all enabled. -/
theorem all_enabled_iff {bytes : List (Byte × Bool)} {k : Nat} (h : k + 4 ≤ bytes.length) :
    ((bytes.drop k).take 4).all (·.2) = true ↔ ∀ j < 4, (bytes[k + j]?.map fun b => b.2) = some true := by
  rw [List.all_eq_true]
  constructor
  · intro enabled j hj
    have hlt : k + j < bytes.length := by omega
    rw [List.getElem?_eq_getElem hlt]
    refine congrArg some (enabled _ (List.mem_of_getElem? (i := j) ?_))
    rw [List.getElem?_take_of_lt hj, List.getElem?_drop, List.getElem?_eq_getElem hlt]
  · intro enabled b hb
    obtain ⟨j, hj⟩ := List.mem_iff_getElem?.1 hb
    rw [List.getElem?_take] at hj
    split at hj
    · next hlt =>
      rw [List.getElem?_drop] at hj
      simpa [hj] using enabled j hlt
    · cases hj

theorem coveredWord_read {t : Txn} {n : Nat} (h : t.access = .read n) (a : Nat) : coveredWord t a = none := by
  simp [coveredWord, h]

theorem coveredWord_of_covers {t : Txn} {bytes : List (Byte × Bool)} {a : Nat} (h : t.access = .write bytes)
    (c : CoversWord t.addr bytes a) :
    coveredWord t a = some (word32At (bytes.map fun b => b.1) (a - t.addr)) := by
  obtain ⟨h1, h2, h3⟩ := c
  have enabled := (all_enabled_iff (by omega)).2 h3
  simp only [coveredWord, h, h1, h2, enabled, decide_true, Bool.and_true, if_true]
  simp [word32At, field, List.map_take, List.map_drop, List.take_take]

theorem coveredWord_of_not_covers {t : Txn} {bytes : List (Byte × Bool)} {a : Nat} (h : t.access = .write bytes)
    (c : ¬CoversWord t.addr bytes a) : coveredWord t a = none := by
  simp only [coveredWord, h]
  split
  · next range =>
    simp only [Bool.and_eq_true, decide_eq_true_eq] at range
    obtain ⟨h1, h2⟩ := range
    refine if_neg fun enabled => c ⟨h1, h2, (all_enabled_iff (by omega)).1 enabled⟩
  · rfl

/-- What an issue does with one watched word of the page at `base` (R12). -/
def State.handWord (f : Forwarded) (base : Nat) (w : WatchedWord) (s : State) : State :=
  match coveredWord f.txn (base + w.offset) with
  | none => s
  | some v => s.handOff w f.cls v

theorem State.handOffs_eq (f : Forwarded) (s : State) :
    s.handOffs f = ((s.handWord f s.path.pageBase .start).handWord f s.path.pageBase .orderTail).handWord f
      s.path.pageBase .reportConsumer := rfl

theorem State.handWord_of_none {f : Forwarded} {base : Nat} {w : WatchedWord}
    (h : coveredWord f.txn (base + w.offset) = none) (s : State) : s.handWord f base w = s := by
  simp [State.handWord, h]

section HandWord

variable {f : Forwarded} {bytes : List (Byte × Bool)} (access : f.txn.access = .write bytes) {base : Nat}
  {w : WatchedWord}

include access

theorem State.handWord_of_covers (c : CoversWord f.txn.addr bytes (base + w.offset)) (s : State) :
    s.handWord f base w =
      s.handOff w f.cls (word32At (bytes.map fun b => b.1) (base + w.offset - f.txn.addr)) := by
  simp [State.handWord, coveredWord_of_covers access c]

theorem State.handWord_of_not_covers (c : ¬CoversWord f.txn.addr bytes (base + w.offset)) (s : State) :
    s.handWord f base w = s := State.handWord_of_none (coveredWord_of_not_covers access c) s

end HandWord

/-- A write whose bytes are all enabled covers each word within its range. -/
theorem CoversWord.of_enabled {start a : Nat} {bytes : List (Byte × Bool)} (enabled : ∀ b ∈ bytes, b.2 = true)
    (h1 : start ≤ a) (h2 : a + 4 ≤ start + bytes.length) : CoversWord start bytes a := by
  refine ⟨h1, h2, fun j hj => ?_⟩
  have hlt : a - start + j < bytes.length := by omega
  rw [List.getElem?_eq_getElem hlt]
  exact congrArg some (enabled _ (List.getElem_mem hlt))

/-- A write of four bytes that covers a word enables them all. -/
theorem CoversWord.enabled {start a : Nat} {bytes : List (Byte × Bool)} (c : CoversWord start bytes a)
    (four : bytes.length = 4) : ∀ b ∈ bytes, b.2 = true := by
  obtain ⟨h1, h2, h3⟩ := c
  intro b hb
  obtain ⟨j, hj⟩ := List.mem_iff_getElem?.1 hb
  have hlt := (List.getElem?_eq_some_iff.1 hj).1
  have e := h3 j (by omega)
  rw [show a - start + j = j by omega, hj] at e
  simpa using e

/-- Two watched words of the page share no byte. -/
theorem WatchedWord.offset_apart {w v : WatchedWord} (h : w ≠ v) :
    w.offset + 4 ≤ v.offset ∨ v.offset + 4 ≤ w.offset := by
  cases w <;> cases v <;> simp_all [WatchedWord.offset]

/-- A write that covers at most one watched word hands on that word alone. -/
theorem State.handOffs_of_only {f : Forwarded} {s : State} (w : WatchedWord)
    (h : ∀ v, v ≠ w → coveredWord f.txn (s.path.pageBase + v.offset) = none) :
    s.handOffs f = s.handWord f s.path.pageBase w := by
  rw [State.handOffs_eq]
  cases w with
  | start =>
    rw [State.handWord_of_none (h .orderTail (by decide)), State.handWord_of_none (h .reportConsumer (by decide))]
  | orderTail =>
    rw [State.handWord_of_none (h .start (by decide)), State.handWord_of_none (h .reportConsumer (by decide))]
  | reportConsumer =>
    rw [State.handWord_of_none (h .start (by decide)), State.handWord_of_none (h .orderTail (by decide))]

/-- A write that covers no watched word hands nothing on. -/
theorem State.handOffs_of_none {f : Forwarded} {s : State}
    (h : ∀ v : WatchedWord, coveredWord f.txn (s.path.pageBase + v.offset) = none) : s.handOffs f = s := by
  rw [State.handOffs_of_only .start fun v _ => h v, State.handWord_of_none (h .start)]

/-- Settles O21: each watched word in turn, by whether the write covers it. -/
theorem watchedWordsAreHandedOn : Obligations.WatchedWordsAreHandedOn := by
  intro f s bytes a base data
  refine ⟨fun n read => State.handOffs_of_none fun v => coveredWord_read read _, ?_⟩
  intro covers give
  refine ⟨⟨rfl, rfl, rfl⟩, fun access => ?_, fun access => ⟨fun w at_w four => ?_, fun apart => ?_,
    fun enabled lo hi => ?_⟩⟩
  · exact ⟨_, _, _, State.handOffs_eq f s, fun c => State.handWord_of_covers access c _,
      fun c => State.handWord_of_not_covers access c _, fun c => State.handWord_of_covers access c _,
      fun c => State.handWord_of_not_covers access c _, fun c => State.handWord_of_covers access c _,
      fun c => State.handWord_of_not_covers access c _⟩
  · have only : s.handOffs f = s.handWord f base w := by
      refine State.handOffs_of_only w fun v hv => coveredWord_of_not_covers access fun c => ?_
      have apart := WatchedWord.offset_apart hv
      obtain ⟨h1, h2, _⟩ := c
      omega
    refine ⟨fun enabled => ?_, fun ⟨b, hb, disabled⟩ => ?_⟩
    · have c : CoversWord a bytes (base + w.offset) := .of_enabled enabled (by omega) (by omega)
      rw [only, State.handWord_of_covers access c, show base + w.offset - f.txn.addr = 0 by omega]
    · have c : ¬CoversWord a bytes (base + w.offset) := fun c => by simp [c.enabled four b hb] at disabled
      rw [only, State.handWord_of_not_covers access c]
  · refine State.handOffs_of_none fun v => coveredWord_of_not_covers access fun ⟨h1, h2, _⟩ => ?_
    have := apart v
    omega
  · have c : ∀ w : WatchedWord, w.offset ≤ 0x300 ∧ 0x100 ≤ w.offset → CoversWord a bytes (base + w.offset) :=
      fun w hw => .of_enabled enabled (by omega) (by omega)
    rw [State.handOffs_eq, State.handWord_of_covers access (c .start (by decide)),
      State.handWord_of_covers access (c .orderTail (by decide)),
      State.handWord_of_covers access (c .reportConsumer (by decide))]
    rfl

end Sys2Proof.Machine

namespace Sys2Proof.Machine

/-! ## Memory responses (R2, R9, R10, R142, R175) -/

/-! ### The bytes of a header -/

@[simp] theorem bWord16_length (w : Word16) : (bWord16 w).length = 2 := leBytes_length 2 w.toNat

@[simp] theorem checkBytes_length (body : List Byte) : (checkBytes body).length = 2 := bWord16_length _

/-- A 16-bit word is read where its two bytes stand. -/
theorem word16At_of_bytes {d : List Byte} {off : Nat} {w : Word16} (h : (d.drop off).take 2 = bWord16 w) :
    word16At d off = w := by
  have lt : w.toNat < 256 ^ 2 := w.isLt
  rw [word16At, field, h, bWord16, leNat_leBytes, Nat.mod_eq_of_lt lt, BitVec.ofNat_toNat, BitVec.setWidth_eq]

/-- Words 0 to 14 lie in the first 30 bytes (Table 9-2). -/
theorem headerBody_congr {a b : List Byte} (h : a.take 30 = b.take 30) : headerBody a = headerBody b := by
  have words : ∀ n ∈ List.range 15, word16At a (2 * n) = word16At b (2 * n) := by
    intro n hn
    have hn := List.mem_range.1 hn
    have cut : ∀ l : List Byte, (l.drop (2 * n)).take 2 = ((l.take 30).drop (2 * n)).take 2 := by
      intro l
      rw [List.drop_take, List.take_take, Nat.min_eq_left (by omega)]
    rw [word16At, word16At, field, field, cut a, cut b, h]
  exact List.map_congr_left words

/-- A header of 30 bytes that its check word follows (R59, R142, R143, R175). -/
theorem headerCheck_of_append {body rest : List Byte} (h : body.length = 30) :
    word16At (body ++ checkBytes body ++ rest) 30 =
      xor16 (headerBody (body ++ checkBytes body ++ rest)) := by
  have same : headerBody (body ++ checkBytes body ++ rest) = headerBody body :=
    headerBody_congr (by simp [h])
  rw [same]
  refine word16At_of_bytes ?_
  simp [h, checkBytes]

/-! ### The rewritten header (R9, R142) -/

theorem deliveredBody_length (rw : Rewrite) (data : List Byte) :
    (deliveredBody rw data).length = max 4 (min 30 data.length) := by
  simp only [deliveredBody, List.length_append, bWord16_length, List.length_take, List.length_drop,
    List.length_map]
  omega

/-- A read of 32 bytes or more receives the recomputed check word (R142, R175). -/
theorem rewriteHeader_long (rw : Rewrite) (free : Nat) {data : List Byte} (h : 32 ≤ data.length) :
    rewriteHeader rw free data =
      deliveredBody rw data ++ checkBytes (deliveredBody rw data) ++ data.drop 32 := if_pos h

/-- A read of 31 bytes receives a free value last (log 14). -/
theorem rewriteHeader_31 (rw : Rewrite) (free : Nat) {data : List Byte} (h : data.length = 31) :
    rewriteHeader rw free data = deliveredBody rw data ++ [Config.truncatedCheckByte free] := by
  have short : ¬Config.headerBytes ≤ data.length := by simp [h, Config.headerBytes]
  simp only [rewriteHeader, if_neg short, if_pos h]

/-- A shorter read receives the header up to its length (R142). -/
theorem rewriteHeader_short (rw : Rewrite) (free : Nat) {data : List Byte} (h : data.length ≤ 30) :
    rewriteHeader rw free data = (deliveredBody rw data).take data.length := by
  have short : ¬Config.headerBytes ≤ data.length := by simp only [Config.headerBytes]; omega
  have other : data.length ≠ 31 := by omega
  simp only [rewriteHeader, if_neg short, if_neg other]

/-- A rewritten header has the length of the data memory returned. -/
theorem rewriteHeader_length (rw : Rewrite) (free : Nat) (data : List Byte) :
    (rewriteHeader rw free data).length = data.length := by
  have body := deliveredBody_length rw data
  obtain long | one | short : 32 ≤ data.length ∨ data.length = 31 ∨ data.length ≤ 30 := by omega
  · simp only [rewriteHeader_long rw free long, List.length_append, checkBytes_length, List.length_drop]
    omega
  · simp only [rewriteHeader_31 rw free one, List.length_append, List.length_cons, List.length_nil]
    omega
  · rw [rewriteHeader_short rw free short, List.length_take]
    omega

/-- The first 30 bytes of a rewritten header are those of the delivered header, as far as the read covers them. -/
theorem rewriteHeader_take (rw : Rewrite) (free : Nat) (data : List Byte) :
    (rewriteHeader rw free data).take 30 = (deliveredBody rw data).take data.length := by
  have body := deliveredBody_length rw data
  obtain long | one | short : 32 ≤ data.length ∨ data.length = 31 ∨ data.length ≤ 30 := by omega
  · rw [rewriteHeader_long rw free long, List.append_assoc, List.take_append_of_le_length (by omega),
      List.take_of_length_le (by omega), List.take_of_length_le (by omega)]
  · rw [rewriteHeader_31 rw free one, List.take_append_of_le_length (by omega), List.take_of_length_le (by omega),
      List.take_of_length_le (by omega)]
  · rw [rewriteHeader_short rw free short, List.take_take, Nat.min_eq_right short]

/-- Two bytes of the rewritten header that the read covers. -/
theorem rewriteHeader_word {rw : Rewrite} {data : List Byte} {off : Nat} (free : Nat) (h : off + 2 ≤ data.length)
    (h30 : off + 2 ≤ 30) :
    ((rewriteHeader rw free data).drop off).take 2 = ((deliveredBody rw data).drop off).take 2 := by
  have cut : ∀ (l : List Byte) (n : Nat), off + 2 ≤ n → (l.drop off).take 2 = ((l.take n).drop off).take 2 := by
    intro l n hn
    rw [List.drop_take, List.take_take, Nat.min_eq_left (by omega)]
  rw [cut _ 30 h30, rewriteHeader_take, ← cut _ _ h]

theorem rewriteHeader_getElem? (rw : Rewrite) (free : Nat) {data : List Byte} {i : Nat} (h : i < 30) :
    (rewriteHeader rw free data)[i]? = if i < data.length then (deliveredBody rw data)[i]? else none := by
  rw [← List.getElem?_take_of_lt h, rewriteHeader_take, List.getElem?_take]

/-- Words 2 and 4 to 14 and the high flags byte stay as memory returned them (R142). -/
theorem deliveredBody_kept (rw : Rewrite) {data : List Byte} {i : Nat} (lt : i < data.length)
    (h : i = 4 ∨ i = 5 ∨ (7 ≤ i ∧ i < 30)) : (deliveredBody rw data)[i]? = data[i]? := by
  simp only [deliveredBody, List.getElem?_append, List.length_append, bWord16_length, List.length_take,
    List.length_drop, List.length_map]
  rcases h with rfl | rfl | ⟨h1, h2⟩
  · rw [if_pos (by omega), if_pos (by omega), if_neg (by omega)]
    simp
  · rw [if_pos (by omega), if_pos (by omega), if_neg (by omega)]
    simp
  · rw [if_neg (by omega), List.getElem?_take_of_lt (by omega), List.getElem?_drop]
    congr 1
    omega

/-- The low flags byte of the delivered header (R142). -/
theorem deliveredBody_flags (rw : Rewrite) {data : List Byte} (h : 7 ≤ data.length) :
    (deliveredBody rw data)[6]? = some (deliveredFlags rw (byteAt data 6)) := by
  have six : data[6]? = some (byteAt data 6) := by
    simp [byteAt, List.getD, List.getElem?_eq_getElem (show 6 < data.length by omega)]
  simp only [deliveredBody, List.getElem?_append, List.length_append, bWord16_length, List.length_take,
    List.length_drop, List.length_map]
  rw [if_pos (by omega), if_neg (by omega), List.getElem?_map, List.getElem?_take_of_lt (by omega),
    List.getElem?_drop, show 6 + (6 - (2 + 2 + min 2 (data.length - 4))) = 6 by omega]
  simp [six]

/-- A read of 32 bytes or more: the check word covers the words returned, and the payload stays (R142). -/
theorem rewriteHeader_check (rw : Rewrite) (free : Nat) {data : List Byte} (h : 32 ≤ data.length) :
    word16At (rewriteHeader rw free data) 30 = xor16 (headerBody (rewriteHeader rw free data)) ∧
      (rewriteHeader rw free data).drop 32 = data.drop 32 := by
  have body : (deliveredBody rw data).length = 30 := by
    rw [deliveredBody_length]
    omega
  rw [rewriteHeader_long rw free h]
  exact ⟨headerCheck_of_append body, List.drop_left' (by simp [body])⟩

/-! ### The answer to the initiator (R10) -/

/-- A transaction of the system port is answered and no longer outstanding (R2, R10). -/
theorem execMemoryResponse_of_system {s : State} {mtag : Nat} {o : Outstanding} {id : Fin 16} {tag : Nat}
    {rw : Option Rewrite} (r : Resp) (h : s.port.find mtag = some o) (hp : o.purpose = .system id tag rw) :
    exec (.memoryResponse mtag r) s =
      .next (s.modPort fun p =>
        ((p.drop mtag).answer id tag (systemAnswer rw p.freeCount r)).useFreeFor rw r) := by
  simp [exec, execMemoryResponse, h, hp]

/-- Without a rewrite, and for FAULT, memory's answer goes on as it is (R10). -/
theorem systemAnswer_plain {rw : Option Rewrite} {r : Resp} (h : rw = none ∨ r = .fault) (free : Nat) (p : Port) :
    systemAnswer rw free r = r ∧ (p.useFreeFor rw r).freeCount = p.freeCount := by
  rcases h with rfl | rfl
  · cases r <;> exact ⟨rfl, rfl⟩
  · cases rw <;> exact ⟨rfl, rfl⟩

/-- Settles O22: the answer is memory's, or the rewritten header over it. -/
theorem memoryResponseIsReturned : Obligations.MemoryResponseIsReturned := by
  refine fun mtag r s => ⟨execMemoryResponse_of_find_none r, fun o id tag rw found purpose => ?_⟩
  refine ⟨systemAnswer rw s.port.freeCount r, _, execMemoryResponse_of_system r found purpose, ?_, ?_, ?_⟩
  · exact congrArg (fun p => { s with port := p }) (Port.useFreeFor_eq _ rw r)
  · exact fun plain => systemAnswer_plain plain _ _
  · rintro w data rfl rfl
    have length := rewriteHeader_length w s.port.freeCount data
    refine ⟨rewriteHeader w s.port.freeCount data, rfl, length, fun n => ?_, fun n => ?_, fun n => ?_,
      fun i hi => ?_, rewriteHeader_check w _⟩
    · refine word16At_of_bytes ?_
      rw [rewriteHeader_word _ n (by omega)]
      simp [deliveredBody]
    · refine word16At_of_bytes ?_
      rw [rewriteHeader_word _ n (by omega)]
      simp [deliveredBody]
    · have six : (rewriteHeader w s.port.freeCount data)[6]? = some (deliveredFlags w (byteAt data 6)) := by
        rw [rewriteHeader_getElem? w _ (by omega), if_pos (by omega), deliveredBody_flags w n]
      simp [byteAt, List.getD, six, deliveredFlags]
    · rw [rewriteHeader_getElem? w _ (by omega)]
      by_cases lt : i < data.length
      · rw [if_pos lt, deliveredBody_kept w lt hi]
      · rw [if_neg lt, List.getElem?_eq_none (by omega)]

end Sys2Proof.Machine

namespace Sys2Proof.Machine

/-! ## Header reads: deliveries and fills (R9, R134 to R144, R152, R153, R155) -/

/-- A header read that the decode hands to window `i`, slot `k`, is decided there (R132, R134). -/
theorem exec_headerRead {s : State} {t : Txn} {i : Fin 32} {k : Nat} (h : s.decodes t (.translate i k 0)) :
    exec (.headerRead t) s = .next (s.windowHeaderRead t i k) := by
  rw [exec_of_presents (Or.inr (Or.inr (Or.inl rfl))), State.present_of_decodes h, State.accept_of_translate h]
  rfl

/-! ### A delivery (R139, R141, R142) -/

/-- A delivery writes the window, feeds the holder's meter and forwards the translated read. -/
theorem State.answerDeliver_eq {w : Window} {h : Handle} (holder : w.holder = some h) (t : Txn) (i : Fin 32) (k : Nat)
    (leg : LegName) (src : Fin 48) (m : Nat) (e : SlotEntry) (s : State) :
    s.answerDeliver t i k w leg src m e =
      (((s.putWindow i (w.deliver s.ctl.settings.d k leg src m e).advance).modMeter h.index
        fun x => x.deliver e.len (distance e.seq w.last)).forward
          { txn := { t with addr := s.sourceAddr src m 0 }, cls := .egress,
            rewrite := some (w.rewriteFor leg e) }) := by
  simp only [State.answerDeliver, holder, State.feedHolder]

theorem State.sourceAddr_of_ingress {s : State} {r : Region} (h : s.path.ingress = some r) (src : Fin 48) (m off : Nat) :
    s.sourceAddr src m off = r.base + (src.val * s.ctl.settings.d + m) * s.ctl.settings.z + off := by
  simp [State.sourceAddr, h, regionBase]

/-- The window record after a delivery: the realign count rises at a distance of D or more (R139, R141). -/
theorem Window.deliver_advance (w : Window) (d k : Nat) (leg : LegName) (src : Fin 48) (m : Nat) (e : SlotEntry) :
    (w.deliver d k leg src m e).advance =
      { w with
        bindings := bindDelivered w.bindings k (.source src m e.seq e.len leg) e.seq
        last := some e.seq, dseq := w.dseq + 1, fillRun := 0, disc := false
        takePending := w.takePending || decide (d ≤ distance e.seq w.last)
        counters := { w.counters with
          delivered := min 4294967295 (w.counters.delivered + 1)
          skipped := min 4294967295 (w.counters.skipped + (distance e.seq w.last - 1))
          realigns := if d ≤ distance e.seq w.last then min 4294967295 (w.counters.realigns + 1)
            else w.counters.realigns } } := by
  unfold Window.deliver Window.advance
  by_cases far : d ≤ distance e.seq w.last <;>
    simp [far, WindowCounters.bumpRealign, add32, Config.count32Max]

theorem State.modMeter_same (i : Fin 256) (f : Meter → Meter) (s : State) :
    (s.modMeter i f).bookings[i] = { s.bookings[i] with meter := f s.bookings[i].meter } :=
  State.modBooking_same i _ s

theorem bindDelivered_same {bs : List Binding} {k : Nat} (h : k < bs.length) (b : Binding) (q : Word16) :
    (bindDelivered bs k b q)[k]? = some b := by
  simp [bindDelivered, h]

theorem bindDelivered_other {bs : List Binding} {j k : Nat} (h : j ≠ k) (b : Binding) (q : Word16) :
    (bindDelivered bs k b q)[j]? = (bs[j]?).map fun x => if x.newerThan q then .fill else x := by
  simp [bindDelivered, List.getElem?_set_ne h.symm]

/-- Settles O17: the next state is that of the delivery to the window `w` the decision names. -/
theorem headerReadDeliversTheCandidate : Obligations.HeaderReadDeliversTheCandidate := by
  intro t s i k m w h leg src e r decodes decision holder ingress dist
  have dist_eq : distance e.seq w.last = dist := by
    cases baseline : w.last with
    | none => simp only [dist, baseline, distance]
    | some l => simp only [dist, baseline, distance]
  have run : exec (.headerRead t) s = .next (s.answerDeliver t i k w leg src m e) := by
    rw [exec_headerRead decodes, State.windowHeaderRead, decision]
  refine ⟨_, run, ?_⟩
  rw [State.answerDeliver_eq holder, State.sourceAddr_of_ingress ingress, Window.deliver_advance, dist_eq,
    Window.rewriteFor, dist_eq]
  refine ⟨rfl, ?_, fun inside => ?_, fun j other => ?_, ?_, fun j other => ?_, fun j other => ?_, rfl⟩
  · simp only [State.forward_windows, State.modMeter_windows, State.putWindow_same]
  · rw [State.forward_windows, State.modMeter_windows, State.putWindow_same]
    exact bindDelivered_same inside _ _
  · rw [State.forward_windows, State.modMeter_windows, State.putWindow_same]
    exact bindDelivered_other other _ _
  · rw [State.forward_bookings, State.modMeter_same]
    rfl
  · rw [State.forward_bookings]
    exact State.modBooking_other (Ne.symm other) _ _
  · exact State.putWindow_other (Ne.symm other) _ s

/-! ### The data of a fill (R143, R175) -/

theorem fillBody_length (tag seq : Word16) (disc : Bool) : (fillBody tag seq disc).length = 30 := by
  simp [fillBody, zeros]

/-- A fill of 32 bytes or more has its check word; a shorter one is the header up to its length, but for the free
value of 31 bytes (log 14). -/
theorem fillData_long (tag seq : Word16) (disc : Bool) (free : Nat) {n : Nat} (h : 32 ≤ n) :
    fillData tag seq disc free n =
      fillBody tag seq disc ++ checkBytes (fillBody tag seq disc) ++ List.replicate (n - 32) 0 := if_pos h

theorem fillData_31 (tag seq : Word16) (disc : Bool) (free : Nat) :
    fillData tag seq disc free 31 = fillBody tag seq disc ++ [Config.truncatedCheckByte free] := rfl

theorem fillData_short (tag seq : Word16) (disc : Bool) (free : Nat) {n : Nat} (h : n ≤ 30) :
    fillData tag seq disc free n = (fillBody tag seq disc).take n := by
  have short : ¬Config.headerBytes ≤ n := by simp only [Config.headerBytes]; omega
  have other : n ≠ 31 := by omega
  simp only [fillData, if_neg short, if_neg other]

theorem fillData_length (tag seq : Word16) (disc : Bool) (free n : Nat) :
    (fillData tag seq disc free n).length = n := by
  have body := fillBody_length tag seq disc
  obtain long | rfl | short : 32 ≤ n ∨ n = 31 ∨ n ≤ 30 := by omega
  · simp only [fillData_long _ _ _ _ long, List.length_append, checkBytes_length, List.length_replicate]
    omega
  · simp [fillData_31, body]
  · rw [fillData_short _ _ _ _ short, List.length_take]
    omega

/-- But for a read of 31 bytes, the data is the whole fill cut to the read's length. -/
theorem fillData_eq_take (tag seq : Word16) (disc : Bool) (free : Nat) {n : Nat} (h : n ≠ 31) :
    fillData tag seq disc free n =
      (fillBody tag seq disc ++ checkBytes (fillBody tag seq disc) ++ List.replicate (n - 32) 0).take n := by
  have body := fillBody_length tag seq disc
  obtain long | short : 32 ≤ n ∨ n ≤ 30 := by omega
  · rw [List.take_of_length_le, fillData_long _ _ _ _ long]
    simp only [List.length_append, checkBytes_length, List.length_replicate]
    omega
  · rw [fillData_short _ _ _ _ short, List.append_assoc, List.take_append_of_le_length (by omega)]

/-! ### The window record after a fill (R134, R140) -/

/-- The window record after a fill for `reason`, before its delivery sequence advances (R134, R140). -/
def Window.filled (w : Window) (d k : Nat) : FillReason → Window
  | .unrouted => w.fillUnrouted
  | .sourceDown => w.fillHeld d k .sourceDown
  | .noBaseline => w.fillHeld d k .noBaseline
  | .underrun => w.fillHeld d k .underrun
  | .void => w.fillHeld d k .void

/-- The reasons of the candidate stage, whose fills in a row lead to a realign (R140). -/
def FillReason.misses (r : FillReason) : Prop := r = .underrun ∨ r = .void

/-- Other fills leave the consecutive fill count and the take. -/
theorem Window.filled_of_not_misses (w : Window) (d k : Nat) {r : FillReason} (h : ¬r.misses) :
    w.filled d k r =
      { w with
        bindings := if r = .unrouted then w.bindings else w.bindings.set k .fill
        counters := w.counters.bumpFill r } := by
  cases r
  case underrun => exact absurd (Or.inl rfl) h
  case void => exact absurd (Or.inr rfl) h
  all_goals rfl

/-- A miss short of D raises the consecutive fill count (R140). -/
theorem Window.filled_of_short {w : Window} {d : Nat} (k : Nat) {r : FillReason} (h : r.misses)
    (short : w.fillRun + 1 < d) :
    w.filled d k r =
      { w with
        bindings := w.bindings.set k .fill, counters := w.counters.bumpFill r, fillRun := w.fillRun + 1 } := by
  have c := Nat.not_le.2 short
  rcases h with rfl | rfl <;> simp [Window.filled, Window.fillHeld, c]

/-- The D-th miss in a row makes the next read take again (R140). -/
theorem Window.filled_of_run {w : Window} {d : Nat} (k : Nat) {r : FillReason} (h : r.misses)
    (run : d ≤ w.fillRun + 1) :
    w.filled d k r =
      { w with
        bindings := w.bindings.set k .fill, counters := (w.counters.bumpFill r).bumpRealign, fillRun := 0
        takePending := true } := by
  rcases h with rfl | rfl <;> simp [Window.filled, Window.fillHeld, run]

/-- The three ways of a fill at the window record. -/
theorem Window.filled_cases (w : Window) (d : Nat) (r : FillReason) :
    ¬r.misses ∨ (r.misses ∧ w.fillRun + 1 < d) ∨ (r.misses ∧ d ≤ w.fillRun + 1) := by
  have := Nat.lt_or_ge (w.fillRun + 1) d
  tauto

theorem fillCount_bumpFill (x : WindowCounters) (r c : FillReason) :
    fillCount (x.bumpFill r) c = if c = r then min 4294967295 (fillCount x c + 1) else fillCount x c := by
  cases r <;> cases c <;> rfl

theorem fillCount_bumpRealign (x : WindowCounters) (c : FillReason) :
    fillCount x.bumpRealign c = fillCount x c := by
  cases c <;> rfl

/-- A fill raises the count of its reason, and no other fill count (R152). -/
theorem Window.filled_fillCount (w : Window) (d k : Nat) (r c : FillReason) :
    fillCount (w.filled d k r).counters c =
      if c = r then min 4294967295 (fillCount w.counters c + 1) else fillCount w.counters c := by
  rcases w.filled_cases d r with other | ⟨miss, short⟩ | ⟨miss, run⟩
  · rw [w.filled_of_not_misses d k other, fillCount_bumpFill]
  · rw [Window.filled_of_short k miss short, fillCount_bumpFill]
  · rw [Window.filled_of_run k miss run, fillCount_bumpRealign, fillCount_bumpFill]

theorem WindowCounters.bumpFill_kept (x : WindowCounters) (r : FillReason) :
    (x.bumpFill r).delivered = x.delivered ∧ (x.bumpFill r).skipped = x.skipped ∧
      (x.bumpFill r).realigns = x.realigns := by
  cases r <;> exact ⟨rfl, rfl, rfl⟩

/-- What a fill does not touch: all but the bindings, the fill count, the take and the fill and realign counters
(R144). -/
theorem Window.filled_frame (w : Window) (d k : Nat) (r : FillReason) :
    w.filled d k r =
      { w with
        bindings := (w.filled d k r).bindings, fillRun := (w.filled d k r).fillRun
        takePending := (w.filled d k r).takePending
        counters := { (w.filled d k r).counters with
          delivered := w.counters.delivered, skipped := w.counters.skipped } } := by
  obtain ⟨delivered, skipped, _⟩ := w.counters.bumpFill_kept r
  rcases w.filled_cases d r with other | ⟨miss, short⟩ | ⟨miss, run⟩
  · simp [w.filled_of_not_misses d k other, ← delivered, ← skipped]
  · simp [Window.filled_of_short k miss short, ← delivered, ← skipped]
  · simp [Window.filled_of_run k miss run, WindowCounters.bumpRealign, ← delivered, ← skipped]

/-- The realign count rises at the D-th miss in a row alone (R140). -/
theorem Window.filled_realigns (w : Window) (d k : Nat) {r : FillReason} (h : ¬(r.misses ∧ d ≤ w.fillRun + 1)) :
    (w.filled d k r).counters.realigns = w.counters.realigns := by
  obtain ⟨_, _, realigns⟩ := w.counters.bumpFill_kept r
  rcases w.filled_cases d r with other | ⟨miss, short⟩ | run
  · rw [w.filled_of_not_misses d k other, realigns]
  · rw [Window.filled_of_short k miss short, realigns]
  · exact absurd run h

theorem Window.filled_bindings (w : Window) (d k : Nat) {r : FillReason} (h : r ≠ .unrouted) :
    (w.filled d k r).bindings = w.bindings.set k .fill := by
  rcases w.filled_cases d r with other | ⟨miss, short⟩ | ⟨miss, run⟩
  · rw [w.filled_of_not_misses d k other, if_neg h]
  · rw [Window.filled_of_short k miss short]
  · rw [Window.filled_of_run k miss run]

/-! ### The fill as one event (R140, R141, R143, R153) -/

/-- The state of a fill before its answer: the window record, and the meter of a window that is held. -/
def State.fillTables (i : Fin 32) (k : Nat) (w : Window) (reason : FillReason) (s : State) : State :=
  if reason = .unrouted then s.putWindow i (w.filled s.ctl.settings.d k reason).advance
  else (s.putWindow i (w.filled s.ctl.settings.d k reason).advance).feedHolder w.holder Meter.fill

theorem State.answerFill_eq (t : Txn) (i : Fin 32) (k : Nat) (w : Window) (reason : FillReason) (s : State) :
    s.answerFill t i k w reason = (s.fillTables i k w reason).modPort fun p =>
      (p.answer t.id t.tag (.okay (fillData w.tag w.dseq w.disc p.freeCount t.access.length))).useFree
        t.access.length := by
  cases reason <;> rfl

theorem State.feedHolder_frame (holder : Option Handle) (f : Meter → Meter) (s : State) :
    s.feedHolder holder f = { s with bookings := (s.feedHolder holder f).bookings } := by
  cases holder <;> rfl

/-- A fill writes its window and, where it is held, a meter. -/
theorem State.fillTables_frame (i : Fin 32) (k : Nat) (w : Window) (reason : FillReason) (s : State) :
    s.fillTables i k w reason =
      { s with
        windows := s.windows.set i (w.filled s.ctl.settings.d k reason).advance
        bookings := (s.fillTables i k w reason).bookings } := by
  unfold State.fillTables
  split
  · rfl
  · exact State.feedHolder_frame _ _ _

theorem State.fillTables_window (i : Fin 32) (k : Nat) (w : Window) (reason : FillReason) (s : State) :
    (s.fillTables i k w reason).windows[i] = (w.filled s.ctl.settings.d k reason).advance := by
  rw [State.fillTables_frame]
  exact State.putWindow_same i _ s

theorem State.fillTables_unrouted (i : Fin 32) (k : Nat) (w : Window) (s : State) :
    (s.fillTables i k w .unrouted).bookings = s.bookings := rfl

theorem State.fillTables_held {w : Window} {h : Handle} (holder : w.holder = some h) {reason : FillReason}
    (held : reason ≠ .unrouted) (i : Fin 32) (k : Nat) (s : State) :
    (s.fillTables i k w reason).bookings = (s.modMeter h.index Meter.fill).bookings := by
  simp only [State.fillTables, if_neg held, holder, State.feedHolder]
  rfl

/-- Settles O18: the next state is the tables after the fill, with the read answered at once. -/
theorem headerReadFills : Obligations.HeaderReadFills := by
  intro t s i k w reason decodes decision
  have run : exec (.headerRead t) s = .next (s.answerFill t i k w reason) := by
    rw [exec_headerRead decodes, State.windowHeaderRead, decision]
  have frame := s.fillTables_frame i k w reason
  have port : (s.fillTables i k w reason).port = s.port := by rw [frame]
  refine ⟨fillData w.tag w.dseq w.disc s.port.freeCount t.access.length, _, run, ?_⟩
  rw [State.answerFill_eq, State.modPort, port, Port.useFree_eq]
  dsimp only
  rw [State.fillTables_window]
  have wframe := w.filled_frame s.ctl.settings.d k reason
  refine ⟨rfl, rfl, rfl, rfl, fillData_length _ _ _ _ _, fillData_eq_take _ _ _ _, ?_, ?_, ?_, ?_,
    w.filled_fillCount s.ctl.settings.d k reason, ?_, w.filled_realigns s.ctl.settings.d k, ?_,
    w.filled_bindings s.ctl.settings.d k, ?_, ?_, ?_, ?_, ?_⟩
  · exact (congrArg (fun x : Window => x.dseq + 1) wframe :)
  · exact (congrArg Window.last wframe :)
  · exact (congrArg Window.shift wframe :)
  · exact (congrArg Window.holder wframe :)
  · exact congrArg Window.advance wframe
  · rintro rfl
    exact ⟨rfl, rfl, rfl, rfl⟩
  · intro down
    have other : ¬reason.misses := by rcases down with rfl | rfl <;> simp [FillReason.misses]
    rw [w.filled_of_not_misses _ _ other]
    exact ⟨rfl, rfl⟩
  · refine fun miss => ⟨fun short => ?_, fun full => ?_⟩
    · rw [Window.filled_of_short k miss short]
      exact ⟨rfl, rfl⟩
    · rw [Window.filled_of_run k miss full]
      obtain ⟨_, _, realigns⟩ := w.counters.bumpFill_kept reason
      exact ⟨rfl, rfl, congrArg (fun n => min 4294967295 (n + 1)) realigns⟩
  · intro held h holder
    rw [State.fillTables_held holder held]
    exact ⟨State.modMeter_same _ _ s, fun j other => State.modBooking_other (Ne.symm other) _ s⟩
  · intro j other
    rw [frame]
    exact State.putWindow_other (Ne.symm other) _ s
  · rw [frame]

end Sys2Proof.Machine

namespace Sys2Proof.Machine

/-! ## The watched words (R20, R21, R27, R40, R41, Table 2-2) -/

theorem State.heeds_iff (s : State) (cls : InitiatorClass) :
    s.heeds cls = true ↔ cls = .control ∧ (s.ctl.act = .active ∨ s.ctl.act = .halting) := by
  rw [State.heeds, Bool.and_eq_true, beq_iff_eq, State.decoding_eq_true_iff, and_comm]

/-- A hand-off of the tail or the consumer that Table 2-2 does not act on. -/
theorem State.heeds_eq_false {s : State} {cls : InitiatorClass}
    (h : cls ≠ .control ∨ (s.ctl.act ≠ .active ∧ s.ctl.act ≠ .halting)) : s.heeds cls = false := by
  rw [← Bool.not_eq_true, State.heeds_iff]
  tauto

/-- START acts in PASSIVE (R21). -/
theorem State.handOff_start {s : State} (cls : InitiatorClass) (value : Word32) (h : s.ctl.act = .passive) :
    s.handOff .start cls value = s.startActivation value := if_pos h

theorem State.handOff_start_ignored {s : State} (cls : InitiatorClass) (value : Word32) (h : s.ctl.act ≠ .passive) :
    s.handOff .start cls value = s := if_neg h

theorem State.handOff_orderTail {s : State} {cls : InitiatorClass} (value : Word32) (h : s.heeds cls = true) :
    s.handOff .orderTail cls value = s.tailWrite value := if_pos h

theorem State.handOff_orderTail_ignored {s : State} {cls : InitiatorClass} (value : Word32)
    (h : s.heeds cls = false) : s.handOff .orderTail cls value = s := if_neg (by simp [h])

theorem State.handOff_reportConsumer {s : State} {cls : InitiatorClass} (value : Word32) (h : s.heeds cls = true) :
    s.handOff .reportConsumer cls value = s.consumerWrite value := if_pos h

theorem State.handOff_reportConsumer_ignored {s : State} {cls : InitiatorClass} (value : Word32)
    (h : s.heeds cls = false) : s.handOff .reportConsumer cls value = s := if_neg (by simp [h])

/-- The order tail and report consumer rows are the hand-off itself (log 9). -/
theorem exec_orderTailWrite (cls : InitiatorClass) (value : Word32) (s : State) :
    exec (.orderTailWrite cls value) s = .next (s.handOff .orderTail cls value) := rfl

theorem exec_reportConsumerWrite (cls : InitiatorClass) (value : Word32) (s : State) :
    exec (.reportConsumerWrite cls value) s = .next (s.handOff .reportConsumer cls value) := rfl

/-- How far `x` lies ahead of `c` on a ring of `count` entries, as the integers say it. -/
theorem forward_distance_cast {count c : Nat} (h : c ≤ count) (x : Nat) :
    (((x + (count - c)) % count : Nat) : Int) = ((x : Int) - c) % count := by
  rw [Int.natCast_emod, Int.natCast_add, Int.natCast_sub h,
    show (x : Int) + (count - c) = x - c + count by ring, Int.add_emod_right]

theorem Poster.consumerOk_iff {p : Poster} {count : Nat} (h : p.consumer ≤ count) (v : Nat) :
    p.consumerOk count v = true ↔
      (v : Int) < count ∧ ((v : Int) - p.consumer) % count ≤ ((p.head : Int) - p.consumer) % count := by
  rw [Poster.consumerOk, Bool.and_eq_true, decide_eq_true_iff, decide_eq_true_iff, ← forward_distance_cast h,
    ← forward_distance_cast h, Int.ofNat_le, Int.ofNat_lt]

theorem onForwardPath_iff {count a : Nat} (h : a ≤ count) (b x : Nat) :
    onForwardPath count a b x = true ↔ ((x : Int) - a) % count < ((b : Int) - a) % count := by
  rw [onForwardPath, decide_eq_true_iff, ← forward_distance_cast h, ← forward_distance_cast h, Int.ofNat_lt]

/-! ### The stray monitor at a consumer write (R15) -/

theorem StrayMonitor.consumed_of_passed {m : StrayMonitor} {count before after i : Nat} (flag : m.outstanding = true)
    (index : m.index = some i) (passed : onForwardPath count before after i = true) :
    m.consumed count before after = { m with outstanding := false, index := none } := by
  simp [StrayMonitor.consumed, flag, index, passed]

theorem StrayMonitor.consumed_of_ahead {m : StrayMonitor} {count before after i : Nat} (index : m.index = some i)
    (ahead : onForwardPath count before after i = false) : m.consumed count before after = m := by
  simp [StrayMonitor.consumed, index, ahead]

theorem StrayMonitor.consumed_of_clear {m : StrayMonitor} (h : m.outstanding = false ∨ m.index = none)
    (count before after : Nat) : m.consumed count before after = m := by
  cases index : m.index with
  | none => simp [StrayMonitor.consumed, index]
  | some i => simp [StrayMonitor.consumed, index, h.resolve_right (by simp [index])]

/-- A consumer value on the forward path is taken (R40). -/
theorem State.consumerWrite_of_ok {s : State} {value : Word32}
    (h : s.poster.consumerOk s.ctl.settings.reportCount value.toNat = true) :
    s.consumerWrite value =
      { s with
        poster := { s.poster with consumer := value.toNat }
        path := { s.path with
          stray := s.path.stray.consumed s.ctl.settings.reportCount s.poster.consumer value.toNat } } := if_pos h

theorem State.consumerWrite_of_not_ok {s : State} {value : Word32}
    (h : s.poster.consumerOk s.ctl.settings.reportCount value.toNat = false) :
    s.consumerWrite value =
      s.badIndex .reportConsumer value s.ctl.settings.reportCount s.poster.head s.poster.consumer :=
  if_neg (by simp [h])

/-- Settles O23: Table 2-2, word by word. -/
theorem watchedWordsAreActedOn : Obligations.WatchedWordsAreActedOn := by
  refine ⟨fun value cls s => ⟨State.handOff_start cls value, State.handOff_start_ignored cls value, fun released => ?_⟩,
    fun cls value s => ⟨fun control mode => ⟨fun below => ?_, fun beyond => ?_⟩, fun unheeded => ?_, rfl⟩, ?_⟩
  · simp [exec, execStartWrite, released]
  · rw [exec_orderTailWrite, State.handOff_orderTail value ((s.heeds_iff cls).2 ⟨control, mode⟩), State.tailWrite,
      if_pos below]
    rfl
  · rw [exec_orderTailWrite, State.handOff_orderTail value ((s.heeds_iff cls).2 ⟨control, mode⟩), State.tailWrite,
      if_neg (Nat.not_lt.2 beyond)]
    rfl
  · rw [exec_orderTailWrite, State.handOff_orderTail_ignored value (State.heeds_eq_false unheeded)]
  · intro cls value s count c h v onPath
    refine ⟨fun control mode hc _ => ?_, fun unheeded => ?_, rfl⟩
    · have hc : s.poster.consumer ≤ s.ctl.settings.reportCount := by omega
      have ok_iff : s.poster.consumerOk s.ctl.settings.reportCount value.toNat = true ↔ onPath :=
        Poster.consumerOk_iff hc _
      rw [exec_reportConsumerWrite,
        State.handOff_reportConsumer value ((s.heeds_iff cls).2 ⟨control, mode⟩)]
      refine ⟨fun ok => ⟨_, congrArg _ (State.consumerWrite_of_ok (ok_iff.2 ok)), fun i flag index passed => ?_,
        fun i index ahead => ?_, fun clear => StrayMonitor.consumed_of_clear clear _ _ _⟩, fun bad => ?_⟩
      · exact StrayMonitor.consumed_of_passed flag index ((onForwardPath_iff hc _ _).2 passed)
      · refine StrayMonitor.consumed_of_ahead index ?_
        rw [← Bool.not_eq_true, onForwardPath_iff hc]
        exact not_lt.2 ahead
      · rw [State.consumerWrite_of_not_ok (Bool.eq_false_iff.2 fun ok => bad (ok_iff.1 ok))]
        rfl
    · rw [exec_reportConsumerWrite, State.handOff_reportConsumer_ignored value (State.heeds_eq_false unheeded)]

end Sys2Proof.Machine

namespace Sys2Proof.Machine

/-! ## An activation (R22 to R24, R48) -/

/-- A block that passes is in range (Table 2-3). -/
theorem rangeOk_of_validateSettings {b : List Byte} {startValue : Word32} {pageBase : Nat}
    (h : validateSettings b startValue pageBase = none) : (settingsFields b).rangeOk = true := by
  unfold validateSettings at h
  dsimp only at h
  split_ifs at h with _ _ range
  simpa using range

/-- A block in range names a class for each initiator (R5). -/
theorem SettingsFields.classOf?_of_rangeOk {f : SettingsFields} (h : f.rangeOk = true) (i : Fin 16) :
    classOf? f.classes[i] = some (f.classes.map fun c => (classOf? c).getD .other)[i] := by
  have named : ∀ c ∈ f.classes.toList, (classOf? c).isSome = true := by
    simp only [SettingsFields.rangeOk, Bool.and_eq_true] at h
    obtain ⟨⟨⟨⟨⟨⟨⟨⟨⟨classes, _⟩, _⟩, _⟩, _⟩, _⟩, _⟩, _⟩, _⟩, _⟩ := h
    exact List.all_eq_true.1 classes
  have mem : f.classes[i] ∈ f.classes.toList := Vector.mem_toList_iff.2 (Vector.getElem_mem i.isLt)
  obtain ⟨x, hx⟩ := Option.isSome_iff_exists.1 (named _ mem)
  rw [hx]
  simp only [Fin.getElem_fin, Vector.getElem_map] at hx ⊢
  rw [hx, Option.getD_some]

/-- A field was clamped when it lies outside the range of its use (R23). -/
theorem SettingsFields.clamped_iff (f : SettingsFields) :
    f.clamped = true ↔ f.divisor < 8 ∨ f.rateInterval = 0 ∨ 1000 < f.rateInterval := by
  simp only [SettingsFields.clamped, SettingsFields.divisorUsed, SettingsFields.rateUsed, Bool.or_eq_true,
    bne_iff_ne, ne_eq]
  omega

theorem SettingsFields.divisorUsed_eq (f : SettingsFields) :
    f.divisorUsed = if f.divisor < 8 then 8 else f.divisor := by
  unfold SettingsFields.divisorUsed
  split <;> omega

theorem SettingsFields.rateUsed_eq (f : SettingsFields) :
    f.rateUsed = if f.rateInterval = 0 then 1 else if 1000 < f.rateInterval then 1000 else f.rateInterval := by
  unfold SettingsFields.rateUsed
  repeat' split
  all_goals omega

/-- The CLAMPED flag of the status word (R176). -/
theorem bitVec_ofNat_toNat_bool (b : Bool) :
    (BitVec.ofNat 8 b.toNat = 1#8 ↔ b = true) ∧ (BitVec.ofNat 8 b.toNat = 0#8 ↔ ¬b = true) := by
  cases b <;> decide

/-- The response to the load of a block that passes (R22, R24). -/
theorem exec_settingsLoadResponse_of_passed {s : State} {mtag : Nat} {data : List Byte}
    (load : s.port.ownPurpose mtag = some .settingsLoad) (loading : s.ctl.act = .loading)
    (passes : validateSettings data s.ctl.startValue s.path.pageBase = none) :
    exec (.settingsLoadResponse mtag (.okay data)) s =
      .next ((s.dropResponse mtag).activate (settingsFields data) (settingsCheck data)) := by
  have dropped : validateSettings data (s.dropResponse mtag).ctl.startValue (s.dropResponse mtag).path.pageBase =
    none := passes
  simp only [exec, execSettingsLoadResponse, load, loading, if_true, State.settingsLoaded, dropped]

/-- Settles O25: the tables are those of `clearTables`, and the three writes are placed on the ports the load left. -/
theorem passedValidationActivates : Obligations.PassedValidationActivates := by
  intro s mtag data load loading passes f clamped
  have flag := bitVec_ofNat_toNat_bool f.clamped
  rw [f.clamped_iff] at flag
  refine ⟨_, BitVec.ofNat 8 f.clamped.toNat, exec_settingsLoadResponse_of_passed load loading passes, flag.1, flag.2,
    rfl, rfl, SettingsFields.classOf?_of_rangeOk (rangeOk_of_validateSettings passes), rfl, rfl, rfl, rfl, rfl,
    f.divisorUsed_eq, f.rateUsed_eq, rfl, fun i => ⟨?_, ?_, ?_⟩, fun c => ?_, fun i => ⟨?_, ?_⟩, fun w => ⟨?_, ?_⟩,
    rfl, rfl, rfl⟩
  · exact Vector.getElem_replicate _
  · exact Vector.getElem_replicate _
  · exact Vector.getElem_replicate _
  · exact Vector.getElem_replicate _
  · exact Vector.getElem_replicate _
  · exact Vector.getElem_map ..
  · exact Vector.getElem_replicate _
  · exact Vector.getElem_replicate _

/-! ## Posting to the report ring (R14, R15, R35 to R39, R44, R174) -/

/-! ### A report write begins (R37) -/

theorem ReportBody.code_lt (b : ReportBody) : b.code < 256 := by
  cases b <;> simp [ReportBody.code]

/-- The three fields of every report entry (Table 9-8). -/
theorem Report.layout_header {r : Report} {lost : Nat} {last : Option Offender} {data : List Byte}
    (h : holdsFields data (r.layout lost last)) :
    field data 0 1 = r.body.code ∧ (lost ≤ 65535 → field data 1 2 = lost) ∧
      (r.created < 2 ^ 40 → field data 3 5 = r.created) := by
  obtain ⟨_, fields, _⟩ := h
  have code := fields (0x00, 1, r.body.code) (by simp [Report.layout])
  have count := fields (0x01, 2, lost) (by simp [Report.layout])
  have created := fields (0x03, 5, r.created) (by simp [Report.layout])
  refine ⟨code.trans (Nat.mod_eq_of_lt r.body.code_lt), fun fits => count.trans (Nat.mod_eq_of_lt ?_),
    fun fits => created.trans (Nat.mod_eq_of_lt ?_)⟩ <;> norm_num at fits ⊢ <;> omega

theorem execReportWriteBegin_of_ready {s : State} {r : Report} {rest : List Report} (hold : s.poster.hold = r :: rest)
    (idle : s.poster.posting = none)
    (room : (s.poster.head + 1) % s.ctl.settings.reportCount ≠ s.poster.consumer) :
    exec .reportWriteBegin s =
      .next (State.place
        { purpose := .reportWrite s.poster.head, addr := s.ctl.settings.reportBase + s.poster.head * 128,
          access := ownWrite (r.bytes s.poster.lost s.path.stray.lastOffender) }
        { s with
          poster := { s.poster with
            posting := some { index := s.poster.head, lost := s.poster.lost }, lost := 0 } }) := by
  have hasRoom : s.poster.room s.ctl.settings.reportCount = true := by simpa [Poster.room] using room
  simp only [exec, execReportWriteBegin, hold, idle, hasRoom, if_true, State.modPoster]
  rfl

theorem execReportWriteBegin_of_idle {s : State}
    (h : s.poster.hold = [] ∨ s.poster.posting ≠ none ∨
      (s.poster.head + 1) % s.ctl.settings.reportCount = s.poster.consumer) :
    exec .reportWriteBegin s = .next s := by
  unfold exec execReportWriteBegin
  dsimp only
  split
  · next r rest hold idle =>
    have full : s.poster.room s.ctl.settings.reportCount = false := by
      simp only [hold, idle, ne_eq, not_true_eq_false, false_or, reduceCtorEq] at h
      simp [Poster.room, h]
    rw [full]
    rfl
  · rfl

/-- Settles O48: the write's data are the bytes of the report, which hold its layout. -/
theorem reportWriteBegins : Obligations.ReportWriteBegins := by
  refine ⟨fun s => ⟨fun r rest hold idle room => ?_, execReportWriteBegin_of_idle⟩, fun _ _ _ _ _ _ _ _ _ _ _ => rfl,
    rfl, rfl, rfl, rfl, rfl, rfl, rfl, rfl, rfl, rfl, rfl, rfl, rfl, rfl, rfl, rfl, rfl⟩
  have layout := r.bytes_layout s.poster.lost s.path.stray.lastOffender
  obtain ⟨code, lost, created⟩ := Report.layout_header layout
  exact ⟨_, layout, code, lost, created, execReportWriteBegin_of_ready hold idle room⟩

/-! ### The response to a report write (R15, R35, R38, R44) -/

theorem Report.isHalt_iff (r : Report) :
    r.isHalt = true ↔ ∃ c f, r.body = .completion c ∧ c.outcome = .done f .halt := by
  unfold Report.isHalt
  split
  · next c body =>
    split
    · next f outcome => simp [body, outcome]
    · next other =>
      simp only [body, ReportBody.completion.injEq, Bool.false_eq_true, false_iff, not_exists]
      rintro c' f ⟨rfl, outcome⟩
      exact other f outcome
  · next other =>
    simp only [Bool.false_eq_true, false_iff, not_exists]
    rintro c f ⟨body, _⟩
    exact other c body

theorem Report.isStray_iff (r : Report) : r.isStray = true ↔ ∃ n, r.body = .stray n := by
  unfold Report.isStray
  split
  · next n body => simp [body]
  · next other =>
    simp only [Bool.false_eq_true, false_iff, not_exists]
    exact other

theorem Poster.answered_okay {p : Poster} {r : Report} {rest : List Report} (hold : p.hold = r :: rest) (x : Posting)
    (count : Nat) :
    p.answered x count true = { p with hold := rest, posting := none, head := (p.head + 1) % count } := by
  simp [Poster.answered, hold]

theorem Poster.answered_fault {p : Poster} {r : Report} {rest : List Report} (hold : p.hold = r :: rest) (x : Posting)
    (count : Nat) :
    p.answered x count false =
      { p with hold := rest, posting := none, lost := min 65535 (x.lost + p.lost + 1) } := by
  simp [Poster.answered, hold, Config.lostMax]

/-- The stray monitor after the response to the write of `r` (R14, R15, log 17). -/
def StrayMonitor.afterWrite (m : StrayMonitor) (r : Report) (index : Nat) (okay : Bool) : StrayMonitor :=
  if r.isStray then m.posted index okay else m

/-- The state in which a report write has been answered, before the settlements that wait enter (R38). -/
def State.writeAnswered (s : State) (r : Report) (x : Posting) (okay : Bool) : State :=
  let poster := s.poster.answered x s.ctl.settings.reportCount okay
  let s1 : State := { s with path := { s.path with stray := s.path.stray.afterWrite r x.index okay }, poster }
  if okay then s1.place (s1.reportHeadWrite poster.head r.isHalt) else s1

theorem State.writeAnswered_ctl (s : State) (r : Report) (x : Posting) (okay : Bool) :
    (s.writeAnswered r x okay).ctl = s.ctl := by
  cases okay <;> rfl

theorem State.writeAnswered_pageBase (s : State) (r : Report) (x : Posting) (okay : Bool) :
    (s.writeAnswered r x okay).path.pageBase = s.path.pageBase := by
  cases okay <;> rfl

theorem State.reportWritten_eq (s : State) (r : Report) (x : Posting) (okay : Bool) :
    s.reportWritten r x okay =
      if r.isHalt then (s.writeAnswered r x okay).drainSettlements.beginPassive okay
      else (s.writeAnswered r x okay).drainSettlements := by
  unfold State.reportWritten State.writeAnswered StrayMonitor.afterWrite
  cases okay <;> cases r.isStray <;> rfl

theorem execReportWriteResponse_of_posting {s : State} {mtag index : Nat} {okay : Bool} {r : Report}
    {rest : List Report} {x : Posting} (write : s.port.ownPurpose mtag = some (.reportWrite index))
    (hold : s.poster.hold = r :: rest) (posting : s.poster.posting = some x) :
    exec (.reportWriteResponse mtag okay) s = .next ((s.dropResponse mtag).reportWritten r x okay) := by
  simp only [exec, execReportWriteResponse, write, hold, posting]

/-- Settles O49: the answered write, the settlements that enter, and the PASSIVE write behind the HALT completion. -/
theorem reportWriteResponseFreesTheEntry : Obligations.ReportWriteResponseFreesTheEntry := by
  intro s mtag index okay r rest x write hold posting isStray isHalt head s1
  have run := execReportWriteResponse_of_posting (okay := okay) write hold posting
  rw [State.reportWritten_eq] at run
  refine ⟨r.isHalt, s.path.stray.afterWrite r x.index okay, s1.writeAnswered r x okay, r.isHalt_iff, fun plain => ?_,
    fun stray ok => ?_, fun stray fault => ?_, fun ok => ?_, fun fault => ?_, fun other => ?_, fun halt => ?_⟩
  · exact if_neg (plain ∘ r.isStray_iff.1)
  · rw [StrayMonitor.afterWrite, if_pos (r.isStray_iff.2 stray), ok]
    rfl
  · rw [StrayMonitor.afterWrite, if_pos (r.isStray_iff.2 stray), fault]
    rfl
  · rw [ok, State.writeAnswered, Poster.answered_okay (p := s1.poster) hold]
    rfl
  · rw [fault, State.writeAnswered, Poster.answered_fault (p := s1.poster) hold]
    rfl
  · rw [run, if_neg (other ∘ r.isHalt_iff.1)]
    rfl
  · rw [run, if_pos (r.isHalt_iff.2 halt)]
    have drained := (s1.writeAnswered r x okay).drainSettlements_step
    have ctl : (s1.writeAnswered r x okay).drainSettlements.ctl = s.ctl :=
      drained.ctl.trans (s1.writeAnswered_ctl r x okay)
    have page : (s1.writeAnswered r x okay).drainSettlements.path.pageBase = s.path.pageBase :=
      (congrArg PathState.pageBase drained.path).trans (s1.writeAnswered_pageBase r x okay)
    rw [← ctl, ← page]
    rfl

end Sys2Proof.Machine

namespace Sys2Proof.Machine

/-! ## The laws at reset (R46, R57, section 4.7) -/

/-! ### The records at reset -/

theorem State.reset_source (i : Fin 48) : State.reset.sources[i] = .reset 0 := Vector.getElem_replicate _

theorem State.reset_health (i : Fin 48) : State.reset.health[i] = .reset := Vector.getElem_replicate _

theorem State.reset_leg (i : Fin 256) : State.reset.legs[i] = none := Vector.getElem_replicate _

theorem State.reset_booking (i : Fin 256) : State.reset.bookings[i] = .reset 0 := Vector.getElem_replicate _

theorem State.reset_calendar (w : Fin 32) : State.reset.calendar[w] = [] := Vector.getElem_replicate _

theorem State.reset_useCount (i : Fin 48) : State.reset.useCounts[i] = 0 := Vector.getElem_replicate _

theorem State.reset_window (w : Fin 32) : State.reset.windows[w] = .reset 0 := Vector.getElem_replicate _

/-! ### Each law -/

theorem State.reset_timeLaw : State.reset.timeLaw := by
  decide

theorem State.reset_fetchLaw : State.reset.fetchLaw := by
  decide

theorem State.reset_queuesBounded : State.reset.queuesBounded := by
  decide

theorem State.reset_slotLaw : State.reset.slotLaw := by
  intro i
  rw [State.reset_source]
  exact ⟨rfl, fun k e h => absurd h (by simp [Source.reset])⟩

theorem State.reset_healthLaw : State.reset.healthLaw := by
  intro i
  rw [State.reset_health, State.reset_source]
  decide

theorem State.reset_bindingLaw : State.reset.bindingLaw := by
  intro w
  rw [State.reset_window]
  exact fun k src m q len leg h => absurd h (by simp [Window.reset])

theorem State.reset_bindingSourceLaw : State.reset.bindingSourceLaw := by
  intro w k src m q len leg h
  rw [State.reset_window] at h
  exact absurd h (by simp [Window.reset])

/-- No window is held, and no booking is on air. -/
theorem State.reset_holderLaw : State.reset.holderLaw := by
  constructor
  · intro w h held
    rw [State.reset_window] at held
    cases held
  · intro i air
    rw [State.reset_booking] at air
    cases air

theorem State.reset_settlementLaw : State.reset.settlementLaw := by
  refine ⟨List.nodup_nil, fun i => ?_⟩
  rw [State.reset_booking]
  exact ⟨⟨fun h => absurd h List.not_mem_nil, nofun⟩, ⟨nofun, nofun⟩⟩

/-- The lists are empty, and no booking is live. -/
theorem State.reset_calendarLaw : State.reset.calendarLaw := by
  refine ⟨fun w x => ⟨fun h => ?_, fun ⟨live, _⟩ => ?_⟩, fun w => ?_, fun i live => ?_⟩
  · rw [State.reset_calendar] at h
    exact absurd h List.not_mem_nil
  · rw [State.reset_booking] at live
    cases live
  · rw [State.reset_calendar]
    exact List.Pairwise.nil
  · rw [State.reset_booking] at live
    cases live

/-- No booking holds a source. -/
theorem State.reset_users (x : Fin 48) : State.reset.users x = [] := by
  refine List.filter_eq_nil_iff.2 fun i _ => ?_
  rw [State.reset_booking]
  exact Bool.false_ne_true

theorem State.reset_useLaw : State.reset.useLaw := by
  refine ⟨fun x => ?_, fun i => ?_⟩
  · rw [State.reset_useCount, State.reset_users]
    exact ⟨rfl, fun h => absurd h (lt_irrefl 0)⟩
  · rw [State.reset_booking]
    nofun

theorem State.reset_legLaw : State.reset.legLaw := by
  intro i
  rw [State.reset_leg, State.reset_booking]
  exact ⟨by decide, nofun⟩

theorem State.reset_expiryLaw : State.reset.expiryLaw := by
  intro i
  rw [State.reset_booking]
  decide

theorem State.reset_aheadLaw : State.reset.aheadLaw := by
  refine ⟨nofun, fun i => ?_⟩
  rw [State.reset_source, State.reset_health]
  exact ⟨by decide, nofun⟩

/-- Settles O3: every table is empty, idle or at its first values. -/
theorem everyLawHoldsAtReset : Obligations.EveryLawHoldsAtReset :=
  ⟨State.reset_queuesBounded, Or.inl rfl, State.reset_timeLaw, State.reset_fetchLaw, State.reset_slotLaw,
    State.reset_healthLaw, State.reset_bindingLaw, State.reset_bindingSourceLaw, State.reset_holderLaw,
    State.reset_settlementLaw, State.reset_calendarLaw, State.reset_useLaw, State.reset_legLaw,
    State.reset_expiryLaw, State.reset_aheadLaw⟩

end Sys2Proof.Machine

namespace Sys2Proof.Machine

/-! ## Source and health records that an operation leaves -/

/-- `t` has the source records and the health records of `s`. -/
structure SourceFrame (s t : State) : Prop where
  sources : t.sources = s.sources
  health : t.health = s.health

namespace SourceFrame

theorem refl (s : State) : SourceFrame s s := ⟨rfl, rfl⟩

theorem trans {s t u : State} (a : SourceFrame s t) (b : SourceFrame t u) : SourceFrame s u :=
  ⟨b.sources.trans a.sources, b.health.trans a.health⟩

theorem foldl {α : Type} (f : State → α → State) (h : ∀ s a, SourceFrame s (f s a)) (l : List α) (s : State) :
    SourceFrame s (l.foldl f s) := by
  induction l generalizing s with
  | nil => exact refl s
  | cons a l ih => exact (h s a).trans (ih (f s a))

end SourceFrame

theorem QuietStep.sourceFrame {s t : State} (h : QuietStep s t) : SourceFrame s t := ⟨h.sources, h.health⟩

/-! ### Settlements and the life of a booking -/

theorem State.settlementEnter_sourceFrame (s : State) : SourceFrame s s.settlementEnter := by
  unfold State.settlementEnter
  split
  · exact .refl s
  · split
    · exact ⟨rfl, rfl⟩
    · exact .refl s

theorem State.drainSettlements_sourceFrame (s : State) : SourceFrame s s.drainSettlements := by
  have enters : ∀ (n : Nat) (s : State), SourceFrame s (s.settlementsEnter n) := by
    intro n
    induction n with
    | zero => exact SourceFrame.refl
    | succ n ih => exact fun s => s.settlementEnter_sourceFrame.trans (ih _)
  exact enters _ s

theorem State.closeBooking_sourceFrame (i : Fin 256) (r : EndReason) (w : Bool) (s : State) :
    SourceFrame s (s.closeBooking i r w) :=
  ⟨(State.drainSettlements_sourceFrame _).sources, (State.drainSettlements_sourceFrame _).health⟩

theorem State.cancelBooking_sourceFrame (i : Fin 256) (w : Bool) (s : State) :
    SourceFrame s (s.cancelBooking i w) :=
  have noted : SourceFrame s (s.modBooking i fun b => { b with cancelTime := some s.now }) := ⟨rfl, rfl⟩
  noted.trans (State.closeBooking_sourceFrame _ _ _ _)

theorem State.haltBookings_sourceFrame (s : State) : SourceFrame s s.haltBookings :=
  .foldl _ (fun s i => s.closeBooking_sourceFrame i _ _) _ _

theorem State.enterPreroll_sourceFrame (i : Fin 256) (s : State) : SourceFrame s (s.enterPreroll i) :=
  ⟨(State.beginLineCheck_quiet _ _).sources, (State.beginLineCheck_quiet _ _).health⟩

theorem State.clearWindows_sourceFrame (i : Fin 256) (s : State) : SourceFrame s (s.clearWindows i) :=
  .foldl _ (fun s a => s.closeBooking_sourceFrame a _ _) _ _

theorem State.enterOnAir_sourceFrame (i : Fin 256) (fresh : Bool) (n : Nat) (s : State) :
    SourceFrame s (s.enterOnAir i fresh n) := by
  unfold State.enterOnAir
  extract_lets s1 s2 s3 s4 s5 s6 s7
  have claimed : SourceFrame s s1 := by
    unfold s1
    split
    · exact ⟨rfl, rfl⟩
    · exact .refl s
  have checked : SourceFrame s1 s2 := by
    unfold s2
    split
    · exact .refl s1
    · exact (State.endLineCheck_quiet _ _ _).sourceFrame
  have routed : SourceFrame s2 s4 := ⟨State.routeWindows_sources _ _ _, State.routeWindows_health _ _ _⟩
  have told : SourceFrame s4 s7 :=
    (((State.setInitialLeg_quiet _ _).trans (State.judge_quiet _ _)).trans (State.offer_quiet _ _)).sourceFrame
  exact ((claimed.trans checked).trans routed).trans (told.trans ⟨s7.modBooking_sources .., s7.modBooking_health ..⟩)

theorem State.startBooking_sourceFrame (i : Fin 256) (fresh : Bool) (s : State) :
    SourceFrame s (s.startBooking i fresh) :=
  (s.clearWindows_sourceFrame i).trans (State.enterOnAir_sourceFrame _ _ _ _)

theorem State.firstState_sourceFrame (i : Fin 256) (s : State) : SourceFrame s (s.firstState i) := by
  unfold State.firstState
  dsimp only
  split
  · exact s.startBooking_sourceFrame _ _
  · split
    · exact s.enterPreroll_sourceFrame _
    · exact ⟨rfl, rfl⟩

/-! ### The expiries of the booking table -/

theorem State.takeRestore_sourceFrame (i : Fin 256) (s : State) : SourceFrame s (s.takeRestore i) := by
  unfold State.takeRestore
  split
  · exact .refl s
  · split
    · exact (State.restoreLeg_quiet _ _ _).sourceFrame
    · exact .refl s

theorem State.takePreroll_sourceFrame (i : Fin 256) (s : State) : SourceFrame s (s.takePreroll i) := by
  unfold State.takePreroll
  split
  · split
    · exact s.cancelBooking_sourceFrame _ _
    · exact s.enterPreroll_sourceFrame _
  · exact .refl s

theorem State.takeLineWait_sourceFrame (i : Fin 256) (s : State) : SourceFrame s (s.takeLineWait i) := by
  unfold State.takeLineWait
  split
  · exact (State.endLineCheck_quiet _ _ _).sourceFrame
  · exact .refl s

theorem State.takeStart_sourceFrame (i : Fin 256) (s : State) : SourceFrame s (s.takeStart i) := by
  unfold State.takeStart
  split
  · exact s.startBooking_sourceFrame _ _
  · exact .refl s

theorem State.takeEnd_sourceFrame (i : Fin 256) (s : State) : SourceFrame s (s.takeEnd i) := by
  unfold State.takeEnd
  split
  · split
    · exact ⟨rfl, rfl⟩
    · exact s.closeBooking_sourceFrame _ _ _
  · exact .refl s

theorem State.takeCap_sourceFrame (i : Fin 256) (s : State) : SourceFrame s (s.takeCap i) := by
  unfold State.takeCap
  split
  · exact s.closeBooking_sourceFrame _ _ _
  · exact .refl s

/-! ### The windows -/

theorem State.fillTables_sourceFrame (i : Fin 32) (k : Nat) (w : Window) (reason : FillReason) (s : State) :
    SourceFrame s (s.fillTables i k w reason) := by
  rw [State.fillTables_frame]
  exact ⟨rfl, rfl⟩

theorem State.feedHolder_sourceFrame (holder : Option Handle) (f : Meter → Meter) (s : State) :
    SourceFrame s (s.feedHolder holder f) := by
  rw [State.feedHolder_frame]
  exact ⟨rfl, rfl⟩

end Sys2Proof.Machine

namespace Sys2Proof.Machine

/-! ## House time (R28, R47 to R56, R77)

What a command does to the time base and the expiries that run with it, said once for all commands. -/

/-- Every silence limit is 10 ms or more (R77), and no silence expiry lies before `n`. -/
def State.silencesFrom (n : Nat) (s : State) : Prop :=
  ∀ i : Fin 48, 10 ≤ s.sources[i].silenceLimit ∧ ∀ e, s.health[i].silence = some e → n ≤ e

theorem State.silencesFrom_of_eq {n : Nat} {s t : State}
    (limits : ∀ i : Fin 48, t.sources[i].silenceLimit = s.sources[i].silenceLimit) (health : t.health = s.health)
    (ahead : s.silencesFrom n) : t.silencesFrom n := by
  intro i
  rw [limits, health]
  exact ahead i

theorem SourceFrame.silencesFrom {n : Nat} {s t : State} (h : SourceFrame s t) (ahead : s.silencesFrom n) :
    t.silencesFrom n :=
  State.silencesFrom_of_eq (fun i => congrArg (fun v : Vector Source 48 => v[i].silenceLimit) h.sources) h.health ahead

/-- The record of one source changes. -/
theorem State.silencesFrom_set {n : Nat} {s t : State} {src : Fin 48} {r : Source} {h : Health}
    (sources : t.sources = s.sources.set src r) (health : t.health = s.health.set src h)
    (limit : 10 ≤ r.silenceLimit) (silence : ∀ e, h.silence = some e → n ≤ e) (ahead : s.silencesFrom n) :
    t.silencesFrom n := by
  intro i
  rw [sources, health]
  by_cases same : src = i
  · subst same
    simpa using ⟨limit, silence⟩
  · have other : src.val ≠ i.val := fun e => same (Fin.ext e)
    simpa [other] using ahead i

/-- The health record of one source changes. -/
theorem State.silencesFrom_health {n : Nat} {s t : State} {src : Fin 48} {h : Health}
    (sources : t.sources = s.sources) (health : t.health = s.health.set src h)
    (silence : ∀ e, h.silence = some e → n ≤ e) (ahead : s.silencesFrom n) : t.silencesFrom n := by
  refine State.silencesFrom_set (r := s.sources[src]) ?_ health (ahead src).1 silence ahead
  rw [sources]
  exact (Vector.set_getElem_self src.isLt).symm

/-! ### What a command keeps -/

/-- `t` keeps the laws of the time base and of the fetch, and leaves no rate-interval or silence expiry behind house
time. -/
structure ClockStep (s t : State) : Prop where
  laws : s.timeLaw → s.fetchLaw → t.timeLaw ∧ t.fetchLaw
  interval : 1 ≤ s.time.rateInterval → 1 ≤ t.time.rateInterval
  ahead : 1 ≤ s.time.rateInterval → s.aheadLaw → t.aheadLaw

namespace ClockStep

theorem refl (s : State) : ClockStep s s := ⟨fun time fetch => ⟨time, fetch⟩, id, fun _ => id⟩

theorem trans {s t u : State} (a : ClockStep s t) (b : ClockStep t u) : ClockStep s u where
  laws time fetch := b.laws (a.laws time fetch).1 (a.laws time fetch).2
  interval := b.interval ∘ a.interval
  ahead positive := b.ahead (a.interval positive) ∘ a.ahead positive

theorem foldl {α : Type} (f : State → α → State) (h : ∀ s a, ClockStep s (f s a)) (l : List α) (s : State) :
    ClockStep s (l.foldl f s) := by
  induction l generalizing s with
  | nil => exact refl s
  | cons a l ih => exact (h s a).trans (ih (f s a))

/-- House time stands, and with it whether it runs. -/
theorem ofTime {s t : State} (time : t.time = s.time) (decoding : s.fetchLaw → t.decoding = s.decoding)
    (fetch : s.fetchLaw → t.fetchLaw) (silences : s.silencesFrom s.now → t.silencesFrom s.now) : ClockStep s t where
  laws law fetching := ⟨by rw [State.timeLaw, time, decoding fetching]; exact law, fetch fetching⟩
  interval := by rw [time]; exact id
  ahead _ law := by rw [State.aheadLaw, time]; exact ⟨law.1, silences law.2⟩

/-- House time, the activation state and the records of the sources stand, and no fetch begins. -/
theorem ofSame {s t : State} (time : t.time = s.time) (act : t.ctl.act = s.ctl.act)
    (fetching : t.ctl.fetching = true → s.ctl.fetching = true) (frame : SourceFrame s t) : ClockStep s t :=
  ofTime time (fun _ => by rw [State.decoding, act, State.decoding]) (fun law f => act.trans (law (fetching f)))
    frame.silencesFrom

end ClockStep

theorem TableStep.clock {s t : State} (h : TableStep s t) (silences : s.silencesFrom s.now → t.silencesFrom s.now) :
    ClockStep s t :=
  .ofTime h.time (fun _ => by rw [State.decoding, h.ctl, State.decoding]) (fun law => by rwa [State.fetchLaw, h.ctl])
    silences

theorem TableStep.clock_of_frame {s t : State} (h : TableStep s t) (frame : SourceFrame s t) : ClockStep s t :=
  h.clock frame.silencesFrom

theorem QuietStep.clock {s t : State} (h : QuietStep s t) : ClockStep s t :=
  h.toTableStep.clock_of_frame h.sourceFrame

/-! ### The ports, the path decoder and the poster -/

theorem State.modPort_clock (f : Port → Port) (s : State) : ClockStep s (s.modPort f) :=
  .ofSame rfl rfl id ⟨rfl, rfl⟩

theorem State.modPath_clock (f : PathState → PathState) (s : State) : ClockStep s (s.modPath f) :=
  .ofSame rfl rfl id ⟨rfl, rfl⟩

theorem State.modPoster_clock (f : Poster → Poster) (s : State) : ClockStep s (s.modPoster f) :=
  .ofSame rfl rfl id ⟨rfl, rfl⟩

theorem State.place_clock (x : OwnTxn) (s : State) : ClockStep s (s.place x) := s.modPort_clock _

theorem State.dropResponse_clock (mtag : Nat) (s : State) : ClockStep s (s.dropResponse mtag) := s.modPort_clock _

theorem State.forward_clock (f : Forwarded) (s : State) : ClockStep s (s.forward f) := s.modPort_clock _

theorem State.answer_clock (id : Fin 16) (tag : Nat) (resp : Resp) (s : State) :
    ClockStep s (s.answer id tag resp) := s.modPort_clock _

theorem State.offer_clock (body : ReportBody) (s : State) : ClockStep s (s.offer body) := (s.offer_quiet body).clock

/-! ### Arrivals and health (R83 to R91) -/

/-- No transition arms a silence expiry (Table 5-2). -/
theorem Health.transition_silence (h : Health) (r : Source) (c : ArrivalClass) {e : Nat}
    (armed : (h.transition r c).silence = some e) : h.silence = some e := by
  have failed : ∀ g : Health, (g.failImpaired r).silence = some e → g.silence = some e := by
    intro g hg
    unfold Health.failImpaired at hg
    dsimp only at hg
    split at hg
    · cases hg
    · exact hg
  have first : (h.firstStrike r).silence = some e → h.silence = some e := by
    unfold Health.firstStrike
    dsimp only
    split
    · exact failed _
    · exact id
  have good : (h.goodStep r).silence = some e → h.silence = some e := by
    unfold Health.goodStep
    dsimp only
    split <;> exact id
  have suspect : (h.suspectStrike r).silence = some e → h.silence = some e := by
    unfold Health.suspectStrike
    dsimp only
    split
    · exact failed _
    · exact id
  unfold Health.transition at armed
  split at armed
  case h_2 | h_3 | h_4 | h_5 => exact first armed
  case h_6 => exact good armed
  case h_7 | h_8 => exact suspect armed
  case h_9 =>
    split at armed
    · exact good armed
    · exact armed
  case h_10 | h_11 => split at armed <;> exact armed
  all_goals exact armed

/-- An arrival keeps the silence expiry or arms it ahead of house time (R87). -/
theorem Health.afterArrival_silence {h : Health} {r : Source} {now : Nat} {c : ArrivalClass} {e : Nat}
    (armed : (h.afterArrival r now c).silence = some e) : h.silence = some e ∨ e = now + r.silenceLimit := by
  have rearmed : (h.rearm now r).silence = some e → e = now + r.silenceLimit := fun eq => (Option.some.inj eq).symm
  cases c with
  | accepted => exact Or.inr (rearmed (Health.transition_silence _ r _ armed))
  | acceptedGap => exact Or.inr (rearmed (Health.transition_silence _ r _ armed))
  | voidImpairing => exact Or.inl (Health.transition_silence _ r _ armed)
  | voidNeutral => exact Or.inl (Health.transition_silence _ r _ armed)

/-- The expiry of a silence arms the next one a silence limit ahead, or none (R87). -/
theorem Health.afterSilence_silence {h : Health} {r : Source} {now e : Nat}
    (armed : (h.afterSilence r now).silence = some e) : e = now + r.silenceLimit := by
  have limit : some (now + r.silenceLimit) = some e → e = now + r.silenceLimit := fun eq => (Option.some.inj eq).symm
  unfold Health.afterSilence at armed
  dsimp only at armed
  split at armed
  case h_1 => exact limit armed
  case h_2 | h_3 | h_4 =>
    split at armed
    · exact limit armed
    · cases armed
  case h_5 => cases armed

/-- A health record takes new values, with its silence expiry not behind house time. -/
theorem State.setHealth_clock {src : Fin 48} {h : Health} (c : HealthCause) {s : State}
    (silence : s.silencesFrom s.now → ∀ e, h.silence = some e → s.now ≤ e) : ClockStep s (s.setHealth src h c) :=
  (s.setHealth_step src h c).clock fun ahead =>
    State.silencesFrom_health (s.setHealth_sources src h c) (s.setHealth_health src h c) (silence ahead) ahead

/-- The source record and the health record of one source take new values. -/
theorem State.modSource_setHealth_clock {src : Fin 48} {f : Source → Source} {h : Health} (c : HealthCause)
    {s : State} (limit : 10 ≤ s.sources[src].silenceLimit → 10 ≤ (f s.sources[src]).silenceLimit)
    (silence : s.silencesFrom s.now → ∀ e, h.silence = some e → s.now ≤ e) :
    ClockStep s ((s.modSource src f).setHealth src h c) :=
  ((s.modSource_step src f).trans (State.setHealth_step _ _ _ _)).clock fun ahead =>
    State.silencesFrom_set (State.setHealth_sources _ _ _ _) (State.setHealth_health _ _ _ _) (limit (ahead src).1)
      (silence ahead) ahead

theorem State.judged_clock (src : Fin 48) (k : Nat) (v : Verdict) (s : State) :
    ClockStep s (s.judged src k v) := by
  refine State.modSource_setHealth_clock _ (fun limit => ?_) (fun ahead e armed => ?_)
  · cases v <;> exact limit
  · rcases Health.afterArrival_silence armed with kept | rfl
    · exact (ahead src).2 e kept
    · exact Nat.le_add_right _ _

theorem State.ingress_clock (src : Fin 48) (k off : Nat) (bytes : List (Byte × Bool)) (s : State) :
    ClockStep s (s.ingress src k off bytes) := by
  have arrives : ∀ hdr, ClockStep s (s.arrive src k hdr) := by
    intro hdr
    unfold State.arrive
    dsimp only
    split
    · exact s.judged_clock _ _ _
    · exact .refl s
  unfold State.ingress
  split
  · exact .refl s
  · exact arrives _
  · exact arrives _

/-! ### The system port -/

theorem State.windowRead_clock (t : Txn) (w : Fin 32) (k off : Nat) (s : State) :
    ClockStep s (s.windowRead t w k off) := by
  have fill : ∀ x reason, ClockStep s (s.answerFill t w k x reason) := by
    intro x reason
    rw [State.answerFill_eq]
    have tables : ClockStep s (s.fillTables w k x reason) := by
      rw [State.fillTables_frame]
      exact .ofSame rfl rfl id ⟨rfl, rfl⟩
    exact tables.trans (State.modPort_clock _ _)
  have deliver : ∀ x leg src m e, ClockStep s (s.answerDeliver t w k x leg src m e) := by
    intro x leg src m e
    have wrote : ClockStep s (s.putWindow w (x.deliver s.ctl.settings.d k leg src m e).advance) :=
      .ofSame rfl rfl id ⟨rfl, rfl⟩
    exact (wrote.trans ((State.feedHolder_step _ _ _).clock_of_frame (State.feedHolder_sourceFrame _ _ _))).trans
      (State.forward_clock _ _)
  unfold State.windowRead State.windowHeaderRead State.windowPayloadRead
  split
  · split
    · exact fill _ _
    · exact deliver _ _ _ _ _
  · split
    · exact s.forward_clock _
    all_goals exact s.answer_clock _ _ _

theorem State.refuse_clock (t : Txn) (kind : StrayKind) (s : State) : ClockStep s (s.refuse t kind) := by
  unfold State.refuse
  dsimp only
  split
  · exact (s.answer_clock _ _ _).trans (State.modPath_clock _ _)
  · exact ((s.answer_clock _ _ _).trans (State.modPath_clock _ _)).trans (State.offer_clock _ _)

theorem State.accept_clock (t : Txn) (s : State) : ClockStep s (s.accept t) := by
  unfold State.accept
  dsimp only
  split
  · split
    · exact s.forward_clock _
    · exact (s.forward_clock _).trans (State.ingress_clock _ _ _ _ _)
    · exact s.windowRead_clock _ _ _ _
    · exact s.refuse_clock _ _
  · exact s.forward_clock _

theorem State.present_clock (t : Txn) (s : State) : ClockStep s (s.present t) := by
  unfold State.present
  split
  · exact s.modPort_clock _
  · exact s.accept_clock t

theorem State.acceptHeld_clock (s : State) : ClockStep s s.acceptHeld := by
  have take : ∀ s : State, ClockStep s s.takeHeld := by
    intro s
    unfold State.takeHeld
    split
    · exact .refl s
    · split
      · exact .refl s
      · exact (s.modPort_clock _).trans (State.accept_clock _ _)
  have takes : ∀ (n : Nat) (s : State), ClockStep s (s.takesHeld n) := by
    intro n
    induction n with
    | zero => exact ClockStep.refl
    | succ n ih => exact fun s => (take s).trans (ih _)
  exact takes _ s

/-! ### Watched words and issue -/

/-- START changes PASSIVE to LOADING, where house time stands (R21, R48). -/
theorem State.startActivation_clock (value : Word32) {s : State} (passive : s.ctl.act = .passive) :
    ClockStep s (s.startActivation value) := by
  refine .ofTime rfl (fun _ => ?_) (fun law fetching => ?_) (SourceFrame.silencesFrom ⟨rfl, rfl⟩)
  · exact (s.decoding_eq_false_iff.2 (Or.inl passive)).symm
  · exact absurd ((law fetching).symm.trans passive) (by decide)

theorem State.handOff_clock (word : WatchedWord) (cls : InitiatorClass) (value : Word32) (s : State) :
    ClockStep s (s.handOff word cls value) := by
  have tail : ClockStep s (s.tailWrite value) := by
    unfold State.tailWrite
    split
    · exact .ofSame rfl rfl id ⟨rfl, rfl⟩
    · exact s.offer_clock _
  have consumer : ClockStep s (s.consumerWrite value) := by
    unfold State.consumerWrite
    dsimp only
    split
    · exact (s.modPath_clock _).trans (State.modPoster_clock _ _)
    · exact s.offer_clock _
  unfold State.handOff
  cases word
  case start =>
    dsimp only
    split
    · next passive => exact State.startActivation_clock value passive
    · exact .refl s
  case orderTail =>
    dsimp only
    split
    · exact tail
    · exact .refl s
  case reportConsumer =>
    dsimp only
    split
    · exact consumer
    · exact .refl s

theorem State.issueForwarded_clock (s : State) : ClockStep s s.issueForwarded := by
  unfold State.issueForwarded
  split
  · exact .refl s
  · refine ((s.modPort_clock _).trans (ClockStep.foldl _ (fun u w => ?_) _ _)).trans (State.acceptHeld_clock _)
    split
    · exact .refl u
    · exact u.handOff_clock _ _ _

theorem State.issueOwn_clock (s : State) : ClockStep s s.issueOwn := by
  unfold State.issueOwn
  split
  · exact .refl s
  · exact s.modPort_clock _

/-! ### Activation and PASSIVE entry (R23, R24, R45, R48) -/

theorem leNat_lt (l : List Byte) : leNat l < 256 ^ l.length := by
  induction l with
  | nil => exact Nat.one_pos
  | cons b l ih =>
    have := b.isLt
    rw [leNat, List.length_cons, Nat.pow_succ]
    omega

/-- A field of `n` bytes holds what `n` bytes can. -/
theorem field_lt (b : List Byte) (off n : Nat) : field b off n < 256 ^ n :=
  (leNat_lt _).trans_le (Nat.pow_le_pow_right (by decide) (List.length_take_le _ _))

/-- The tables of an activation and of PASSIVE entry arm no silence expiry. -/
theorem State.clearTables_silencesFrom (n d : Nat) (s : State) : (s.clearTables d).silencesFrom n := by
  intro i
  have source : (s.clearTables d).sources[i] = .reset d := Vector.getElem_replicate _
  have health : (s.clearTables d).health[i] = .reset := Vector.getElem_replicate _
  rw [source, health]
  exact ⟨show 10 ≤ 1000 by decide, nofun⟩

theorem SettingsFields.initialTime_of_rangeOk {f : SettingsFields} (h : f.rangeOk = true) :
    f.initialTime < 2 ^ 40 := by
  rw [SettingsFields.rangeOk, Bool.and_eq_true, decide_eq_true_iff] at h
  exact h.2

theorem State.activate_clock {f : SettingsFields} (check : Word32) (range : f.rangeOk = true)
    (divisor : f.divisor ≤ 16777215) (s : State) : ClockStep s (s.activate f check) := by
  have initial := SettingsFields.initialTime_of_rangeOk range
  have used : 8 ≤ f.divisorUsed ∧ f.divisorUsed ≤ 16777215 := by
    unfold SettingsFields.divisorUsed
    omega
  have rate : 1 ≤ f.rateUsed ∧ f.rateUsed ≤ 1000 := by
    unfold SettingsFields.rateUsed
    omega
  refine ⟨fun _ _ => ⟨⟨Nat.le_sub_one_of_lt initial, used.1, used.2, ?_, rate.1, rate.2, rfl, rfl⟩, fun _ => rfl⟩,
    fun _ => rate.1, fun _ _ => ⟨fun e armed => ?_, s.clearTables_silencesFrom _ f.d⟩⟩
  · exact (show 0 < 8 by decide).trans_le used.1
  · exact (Option.some.inj armed) ▸ Nat.le_add_right _ _

/-- A rejected load returns to PASSIVE, where house time stands (R25, R48). -/
theorem State.rejectActivation_clock (reason : RejectReason) (check : Word32) {s : State}
    (loading : s.ctl.act = .loading) : ClockStep s (s.rejectActivation reason check) := by
  refine .ofTime rfl (fun _ => ?_) (fun law fetching => ?_) (SourceFrame.silencesFrom ⟨rfl, rfl⟩)
  · exact (s.decoding_eq_false_iff.2 (Or.inr loading)).symm
  · exact absurd ((law fetching).symm.trans loading) (by decide)

theorem State.settingsLoaded_clock (resp : Resp) {s : State} (loading : s.ctl.act = .loading) :
    ClockStep s (s.settingsLoaded resp) := by
  unfold State.settingsLoaded
  split
  · exact State.rejectActivation_clock _ _ loading
  · next data =>
    split
    · exact State.rejectActivation_clock _ _ loading
    · next passes =>
      have divisor : (settingsFields data).divisor < 256 ^ 3 := field_lt _ _ _
      exact State.activate_clock _ (rangeOk_of_validateSettings passes) (Nat.le_sub_one_of_lt divisor) s

theorem State.passiveEntry_clock (s : State) : ClockStep s s.passiveEntry := by
  refine ⟨fun time _ => ⟨?_, nofun⟩, id, fun _ _ => ⟨nofun, s.clearTables_silencesFrom _ 0⟩⟩
  obtain ⟨house, divisor, divisorMax, _, rate, rateMax, _, _⟩ := time
  exact ⟨house, divisor, divisorMax, (show 0 < 8 by decide).trans_le divisor, rate, rateMax, rfl, rfl⟩

theorem State.passiveIfAnswered_clock (s : State) : ClockStep s s.passiveIfAnswered := by
  unfold State.passiveIfAnswered
  split
  · exact s.passiveEntry_clock
  · exact .refl s

/-! ### Orders (R28 to R31) -/

/-- When a response carries the entry of the order being fetched (R28). -/
theorem State.fetchIndex_eq_some_iff {s : State} {mtag index : Nat} :
    s.fetchIndex mtag = some index ↔
      s.port.ownPurpose mtag = some (.orderFetch index) ∧ s.ctl.fetching = true ∧ s.poster.reserved = true := by
  unfold State.fetchIndex
  split
  · next fetched purpose =>
    rw [purpose, Option.some.injEq, OwnPurpose.orderFetch.injEq]
    split
    · next waits =>
      obtain ⟨fetching, reserved⟩ := Bool.and_eq_true_iff.1 waits
      simp [fetching, reserved]
    · next waits =>
      rw [Bool.and_eq_true] at waits
      exact ⟨nofun, fun ⟨_, both⟩ => absurd both waits⟩
  · next other => exact ⟨nofun, fun ⟨purpose, _⟩ => absurd purpose (other index)⟩

theorem Poster.one_le_free_iff (p : Poster) : 1 ≤ p.free ↔ p.used < 16 := by
  simp only [Poster.free, Poster.used, Config.holdCapacity]
  omega

/-- When the next order is taken (R28). -/
theorem State.takesOrder_iff (s : State) :
    s.takesOrder = true ↔ s.ctl.act = .active ∧ s.ctl.fetching = false ∧ s.ctl.head ≠ s.ctl.tail ∧
      s.settlements = [] ∧ s.poster.used < 16 := by
  simp only [State.takesOrder, Bool.and_eq_true, Bool.not_eq_true', beq_iff_eq, bne_iff_ne, List.isEmpty_iff,
    decide_eq_true_iff, Poster.one_le_free_iff, and_assoc]

theorem State.answerOrder_clock (body : ReportBody) (s : State) : ClockStep s (s.answerOrder body) :=
  .ofSame rfl rfl nofun ⟨rfl, rfl⟩

theorem State.runOrder_clock {body : Nat → State → State × OrderReply} (hb : ∀ n s, ClockStep s (body n s).1)
    (code mtag : Nat) (entry : List Byte) (s : State) : ClockStep s (s.runOrder code mtag entry body) := by
  unfold State.runOrder
  split
  · exact .refl s
  · split
    · refine (s.dropResponse_clock mtag).trans ?_
      dsimp only
      split
      · exact (hb _ _).trans (State.answerOrder_clock _ _)
      · exact State.answerOrder_clock _ _
    · exact .refl s

/-- The silence limit as used is 10 ms or more (R77). -/
theorem le_silenceUsed (v : Nat) : 10 ≤ silenceUsed v := by
  unfold silenceUsed
  omega

theorem Source.define_silenceLimit (r : Source) (o : SourceOrder) :
    (r.define o).silenceLimit = silenceUsed o.silence := by
  unfold Source.define
  dsimp only
  split <;> rfl

theorem State.defineHealth_clock (r : Source) (o : SourceOrder) (s : State) :
    ClockStep s (s.defineHealth r o) := by
  have entered : ∀ (limit : Nat) (e : Nat), (Health.entered s.now limit).silence = some e → s.now ≤ e :=
    fun limit e armed => Option.some.inj armed ▸ Nat.le_add_right _ _
  have moded : ∀ (h : Health) (limit e : Nat),
      (h.faultModeSet o.faultMode s.now limit).silence = some e → s.now ≤ e := by
    intro h limit e armed
    unfold Health.faultModeSet at armed
    split at armed
    · exact Option.some.inj armed ▸ Nat.le_add_right _ _
    · cases armed
  unfold State.defineHealth
  dsimp only
  split
  · exact State.setHealth_clock _ fun _ => entered _
  · exact State.setHealth_clock _ fun _ => nofun
  · split
    · exact (s.putHealth_step _ _).clock (State.silencesFrom_health rfl rfl (moded _ _))
    · exact .refl s
  · exact .refl s

theorem defineSourceOrder_clock (e : List Byte) (n : Nat) (s : State) :
    ClockStep s (defineSourceOrder e n s).1 := by
  unfold defineSourceOrder
  split
  · exact .refl s
  · next o _ =>
    split
    · exact .refl s
    · refine ((s.modSource_step _ _).clock ?_).trans (State.defineHealth_clock _ _ _)
      intro ahead
      refine State.silencesFrom_set rfl (h := s.health[o.src]) ?_ ?_ (ahead _).2 ahead
      · exact (Vector.set_getElem_self o.src.isLt).symm
      · exact (Source.define_silenceLimit _ o).symm ▸ le_silenceUsed _

theorem clearOrder_clock (e : List Byte) (n : Nat) (s : State) : ClockStep s (clearOrder e n s).1 := by
  unfold clearOrder
  split
  · exact .refl s
  · split
    · exact State.modSource_setHealth_clock _ id fun _ e armed => Option.some.inj armed ▸ Nat.le_add_right _ _
    · exact .refl s

theorem forceLegOrder_clock (e : List Byte) (n : Nat) (s : State) : ClockStep s (forceLegOrder e n s).1 := by
  unfold forceLegOrder
  dsimp only
  repeat' split
  case h_2.isFalse.isTrue => exact (s.forceLeg_quiet _ _).clock
  all_goals exact .refl s

theorem tariffOrder_clock (e : List Byte) (n : Nat) (s : State) : ClockStep s (tariffOrder e n s).1 := by
  unfold tariffOrder
  split
  · exact .refl s
  · exact .ofSame rfl rfl id ⟨rfl, rfl⟩

theorem bookOrder_clock (e : List Byte) (n : Nat) (s : State) : ClockStep s (bookOrder e n s).1 := by
  unfold bookOrder
  split
  · exact .refl s
  · split
    · exact .refl s
    · have recorded : ∀ i o, ClockStep s (s.recordBooking i o) := fun i o => .ofSame rfl rfl id ⟨rfl, rfl⟩
      exact (recorded _ _).trans
        ((State.firstState_step _ _).clock_of_frame (State.firstState_sourceFrame _ _))

theorem extendOrder_clock (e : List Byte) (n : Nat) (s : State) : ClockStep s (extendOrder e n s).1 := by
  have extended : ∀ i newEnd, ClockStep s (s.extendBooking i newEnd) := fun i newEnd => .ofSame rfl rfl id ⟨rfl, rfl⟩
  unfold extendOrder
  dsimp only
  repeat' split
  case isFalse.isFalse.isFalse.isFalse => exact extended _ _
  all_goals exact .refl s

theorem releaseOrder_clock (e : List Byte) (n : Nat) (s : State) : ClockStep s (releaseOrder e n s).1 := by
  unfold releaseOrder
  dsimp only
  repeat' split
  case isFalse.isTrue => exact (s.closeBooking_step _ _ _).clock_of_frame (s.closeBooking_sourceFrame _ _ _)
  all_goals exact .refl s

theorem cancelOrder_clock (e : List Byte) (n : Nat) (s : State) : ClockStep s (cancelOrder e n s).1 := by
  have cancelled : ∀ i w, ClockStep s (s.cancelBooking i w) := fun i w =>
    (s.cancelBooking_step i w).clock_of_frame (s.cancelBooking_sourceFrame i w)
  unfold cancelOrder
  dsimp only
  repeat' split
  case h_1 | h_2 => exact cancelled _ _
  all_goals exact .refl s

theorem meterOrder_clock (e : List Byte) (n : Nat) (s : State) : ClockStep s (meterOrder e n s).1 := by
  rw [meterOrder_same]
  exact .refl s

theorem defineWindowOrder_clock (e : List Byte) (n : Nat) (s : State) :
    ClockStep s (defineWindowOrder e n s).1 := by
  unfold defineWindowOrder
  dsimp only
  split
  · exact .refl s
  · split
    · exact .refl s
    · exact .ofSame rfl rfl id ⟨rfl, rfl⟩

/-- SET_TIME moves house time and every expiry by one distance (R55, R56). -/
theorem State.setHouse_clock {new : Nat} (max : new ≤ 2 ^ 40 - 1) (s : State) : ClockStep s (s.setHouse new) := by
  have moved : ∀ (x : Option Nat), (∀ e, x = some e → s.now ≤ e) →
      ∀ e, x.map (shiftExpiry s.now new) = some e → new ≤ e := by
    intro x ahead e armed
    obtain ⟨t, rfl, rfl⟩ := Option.map_eq_some_iff.1 armed
    have := ahead t rfl
    unfold shiftExpiry
    omega
  refine ⟨fun time fetch => ⟨?_, fetch⟩, id, fun _ ahead => ⟨moved _ ahead.1, fun i => ⟨(ahead.2 i).1, ?_⟩⟩⟩
  · obtain ⟨_, divisor, divisorMax, _, rate, rateMax, running, armed⟩ := time
    exact ⟨max, divisor, divisorMax, (show 0 < 8 by decide).trans_le divisor, rate, rateMax, running,
      Option.isSome_map.trans armed⟩
  · have record : (s.setHouse new).health[i].silence = s.health[i].silence.map (shiftExpiry s.now new) := by
      simp [State.setHouse]
    rw [record]
    exact moved _ (ahead.2 i).2

theorem setTimeOrder_clock (e : List Byte) (n : Nat) (s : State) : ClockStep s (setTimeOrder e n s).1 := by
  unfold setTimeOrder
  dsimp only
  split
  · exact .refl s
  · next inRange =>
    split
    · exact .refl s
    · exact s.setHouse_clock (Nat.le_of_not_lt inRange)

/-- HALT leaves ACTIVE for HALTING with the processor IDLE, and house time runs on (R43, R48). -/
theorem State.halt_clock (entry : List Byte) (index : Nat) {s : State} (fetching : s.ctl.fetching = true) :
    ClockStep s (s.halt entry index) := by
  have idle : ClockStep s (State.advanceHead (s.modCtl fun c =>
      { c with act := .halting, haltAnswer := some { tag := orderTag entry, index, created := s.now } })) := by
    refine .ofTime rfl (fun law => ?_) (fun _ => nofun) (SourceFrame.silencesFrom ⟨rfl, rfl⟩)
    exact (s.decoding_eq_true_iff.2 (Or.inl (law fetching))).symm
  exact idle.trans ((State.haltBookings_step _).clock_of_frame (State.haltBookings_sourceFrame _))

/-! ### Posting (R35, R38, R44) -/

theorem State.drainSettlements_clock (s : State) : ClockStep s s.drainSettlements :=
  s.drainSettlements_step.clock_of_frame s.drainSettlements_sourceFrame

theorem State.reportWritten_clock (r : Report) (x : Posting) (okay : Bool) (s : State) :
    ClockStep s (s.reportWritten r x okay) := by
  have answered : ClockStep s (s.writeAnswered r x okay) := by
    cases okay <;> exact .ofSame rfl rfl id ⟨rfl, rfl⟩
  have drained := answered.trans (State.drainSettlements_clock _)
  rw [State.reportWritten_eq]
  split
  · exact drained.trans (.ofSame rfl rfl id ⟨rfl, rfl⟩)
  · exact drained

theorem State.headAnswered_clock (final : Bool) (s : State) : ClockStep s (s.modCtl (·.headAnswered final)) := by
  cases final <;> exact .ofSame rfl rfl id ⟨rfl, rfl⟩

theorem State.statusAnswered_clock (passive : Bool) (s : State) :
    ClockStep s (s.modCtl (·.statusAnswered passive)) := by
  cases passive <;> exact .ofSame rfl rfl id ⟨rfl, rfl⟩

/-! ### The rate interval (R54, R74) -/

theorem State.closeInterval_records (s : State) :
    s.closeInterval.sources = s.sources.map Source.clearInterval ∧ s.closeInterval.health = s.health :=
  ⟨congrArg (Vector.map Source.clearInterval) s.offerRates_quiet.sources, s.offerRates_quiet.health⟩

theorem State.takeRate_of_due {s : State} {t : Nat} (armed : s.time.rateExpiry = some t) (due : t ≤ s.now) :
    s.takeRate = (s.modTime fun b => { b with rateExpiry := some (t + b.rateInterval) }).closeInterval := by
  simp only [State.takeRate, armed, due, if_true]

theorem State.takeRate_cases (s : State) :
    (dueAt s.now s.time.rateExpiry = false ∧ s.takeRate = s) ∨
      ∃ t, s.time.rateExpiry = some t ∧ t ≤ s.now ∧
        s.takeRate = (s.modTime fun b => { b with rateExpiry := some (t + b.rateInterval) }).closeInterval := by
  by_cases due : ∃ t, s.time.rateExpiry = some t ∧ t ≤ s.now
  · obtain ⟨t, armed, reached⟩ := due
    exact Or.inr ⟨t, armed, reached, State.takeRate_of_due armed reached⟩
  · have idle : dueAt s.now s.time.rateExpiry = false := by
      cases armed : s.time.rateExpiry with
      | none => rfl
      | some t => exact decide_eq_false fun reached => due ⟨t, armed, reached⟩
    exact Or.inl ⟨idle, State.takeRate_of_not_due idle⟩

/-- The rate interval re-arms its expiry when it is due, and the time base is otherwise as it was. -/
theorem State.takeRate_time (s : State) :
    s.takeRate.time = { s.time with
      rateExpiry := s.time.rateExpiry.map fun t => if t ≤ s.now then t + s.time.rateInterval else t } := by
  rcases s.takeRate_cases with ⟨idle, same⟩ | ⟨t, armed, due, taken⟩
  · have stands : (s.time.rateExpiry.map fun t => if t ≤ s.now then t + s.time.rateInterval else t) =
        s.time.rateExpiry := by
      cases armed : s.time.rateExpiry with
      | none => rfl
      | some t =>
        rw [armed, dueAt, decide_eq_false_iff_not] at idle
        simp [idle]
    rw [same, stands]
  · rw [taken, (State.closeInterval_step _).time]
    simp [armed, due]

/-- The rate interval clears the interval figures alone. -/
theorem State.takeRate_records (s : State) :
    (∀ i : Fin 48, s.takeRate.sources[i].silenceLimit = s.sources[i].silenceLimit) ∧
      s.takeRate.health = s.health ∧ s.takeRate.ctl = s.ctl := by
  rcases s.takeRate_cases with ⟨_, same⟩ | ⟨t, _, _, taken⟩
  · rw [same]
    exact ⟨fun _ => rfl, rfl, rfl⟩
  · obtain ⟨sources, health⟩ := State.closeInterval_records
      (s.modTime fun b => { b with rateExpiry := some (t + b.rateInterval) })
    rw [taken]
    refine ⟨fun i => ?_, health, (State.closeInterval_step _).ctl⟩
    rw [sources]
    simp [Source.clearInterval]

theorem State.takeRate_laws {s : State} (time : s.timeLaw) (fetch : s.fetchLaw) :
    s.takeRate.timeLaw ∧ s.takeRate.fetchLaw := by
  obtain ⟨_, _, ctl⟩ := s.takeRate_records
  obtain ⟨house, divisor, divisorMax, prescaler, rate, rateMax, running, armed⟩ := time
  rw [State.timeLaw, State.fetchLaw, State.decoding, s.takeRate_time, ctl]
  exact ⟨⟨house, divisor, divisorMax, prescaler, rate, rateMax, running, Option.isSome_map.trans armed⟩, fetch⟩

/-- A rate interval that has been taken lies ahead of house time (R54). -/
theorem State.takeRate_rateExpiry {s : State} (positive : 1 ≤ s.time.rateInterval)
    (ahead : ∀ e, s.time.rateExpiry = some e → s.now ≤ e) {e : Nat} (armed : s.takeRate.time.rateExpiry = some e) :
    s.now < e := by
  rw [s.takeRate_time] at armed
  obtain ⟨t, due, rfl⟩ := Option.map_eq_some_iff.1 armed
  have := ahead t due
  split <;> omega

theorem State.takeRate_now (s : State) : s.takeRate.now = s.now :=
  (congrArg TimeBase.house s.takeRate_time :)

theorem State.takeRate_clock (s : State) : ClockStep s s.takeRate := by
  obtain ⟨limits, health, _⟩ := s.takeRate_records
  refine ⟨State.takeRate_laws, fun positive => ?_, fun positive ahead => ⟨fun e armed => ?_, ?_⟩⟩
  · rw [s.takeRate_time]
    exact positive
  · exact s.takeRate_now.le.trans (State.takeRate_rateExpiry positive ahead.1 armed).le
  · have silences : s.takeRate.silencesFrom s.now := State.silencesFrom_of_eq limits health ahead.2
    exact fun i => ⟨(silences i).1, fun e armed => s.takeRate_now.le.trans ((silences i).2 e armed)⟩

/-! ### The silences (R87) -/

theorem lt_of_not_due {now : Nat} {x : Option Nat} (h : dueAt now x = false) {e : Nat} (armed : x = some e) :
    now < e := by
  rw [armed, dueAt, decide_eq_false_iff_not] at h
  exact Nat.lt_of_not_le h

theorem State.takeSilence_of_due {i : Fin 48} {s : State} (due : dueAt s.now s.health[i].silence = true) :
    s.takeSilence i = s.setHealth i (s.health[i].afterSilence s.sources[i] s.now) .silence := if_pos due

theorem State.takeSilence_of_not_due {i : Fin 48} {s : State} (idle : dueAt s.now s.health[i].silence = false) :
    s.takeSilence i = s := if_neg (by simp only [idle, Bool.false_eq_true, not_false_eq_true])

theorem State.takeSilence_sources (i : Fin 48) (s : State) : (s.takeSilence i).sources = s.sources := by
  cases due : dueAt s.now s.health[i].silence with
  | false => rw [State.takeSilence_of_not_due due]
  | true => rw [State.takeSilence_of_due due, State.setHealth_sources]

theorem State.takeSilence_other {i j : Fin 48} (h : i ≠ j) (s : State) :
    (s.takeSilence i).health[j] = s.health[j] := by
  cases due : dueAt s.now s.health[i].silence with
  | false => rw [State.takeSilence_of_not_due due]
  | true =>
    rw [State.takeSilence_of_due due, State.setHealth_health]
    exact State.putHealth_other h _ s

/-- A silence that has been taken lies ahead of house time (R87). -/
theorem State.takeSilence_same {i : Fin 48} {s : State} (limit : 10 ≤ s.sources[i].silenceLimit) {e : Nat}
    (armed : (s.takeSilence i).health[i].silence = some e) : s.now < e := by
  cases due : dueAt s.now s.health[i].silence with
  | false =>
    rw [State.takeSilence_of_not_due due] at armed
    exact lt_of_not_due due armed
  | true =>
    rw [State.takeSilence_of_due due, State.setHealth_health, ← State.putHealth_health, State.putHealth_same] at armed
    have := Health.afterSilence_silence armed
    omega

theorem State.takeSilence_clock (i : Fin 48) (s : State) : ClockStep s (s.takeSilence i) := by
  refine (s.takeSilence_step i).clock fun ahead j => ?_
  rw [s.takeSilence_sources]
  refine ⟨(ahead j).1, fun e armed => ?_⟩
  by_cases same : i = j
  · subst same
    exact (State.takeSilence_same (ahead i).1 armed).le
  · rw [State.takeSilence_other same] at armed
    exact (ahead j).2 e armed

/-- After the silences of a list are taken, a silence lies ahead of house time or was left as it stood. -/
theorem State.takeSilences_ahead (l : List (Fin 48)) {s : State} (limits : ∀ i : Fin 48, 10 ≤ s.sources[i].silenceLimit)
    {i : Fin 48} {e : Nat} (armed : (l.foldl (fun s i => s.takeSilence i) s).health[i].silence = some e) :
    s.now < e ∨ i ∉ l ∧ s.health[i].silence = some e := by
  induction l generalizing s with
  | nil => exact Or.inr ⟨List.not_mem_nil, armed⟩
  | cons a l ih =>
    rcases ih (s := s.takeSilence a) (by rwa [s.takeSilence_sources]) armed with ahead | ⟨notMem, stood⟩
    · exact Or.inl ((s.takeSilence_step a).time_now ▸ ahead)
    · by_cases same : a = i
      · subst same
        exact Or.inl (State.takeSilence_same (limits a) stood)
      · rw [State.takeSilence_other same] at stood
        exact Or.inr ⟨List.not_mem_cons_of_ne_of_not_mem (Ne.symm same) notMem, stood⟩

/-! ### House ticks (R47, R51) -/

/-- The rate interval and the silences of a tick's takings. -/
def State.takeSilences (s : State) : State :=
  s.takeRate.silencesDue.foldl (fun s i => s.takeSilence i) s.takeRate

/-- What a tick takes after the silences leaves house time and the records of the sources. -/
theorem State.takeDue_after (s : State) :
    TableStep s.takeSilences s.takeDue ∧ SourceFrame s.takeSilences s.takeDue := by
  have step : ∀ {α : Type} (f : State → α → State), (∀ s a, TableStep s (f s a) ∧ SourceFrame s (f s a)) →
      ∀ (l : List α) (t : State), TableStep s.takeSilences t ∧ SourceFrame s.takeSilences t →
        TableStep s.takeSilences (l.foldl f t) ∧ SourceFrame s.takeSilences (l.foldl f t) :=
    fun f h l t before => ⟨before.1.trans (.foldl f (fun s a => (h s a).1) l t),
      before.2.trans (.foldl f (fun s a => (h s a).2) l t)⟩
  have restored := step _ (fun s i => ⟨s.takeRestore_step i, s.takeRestore_sourceFrame i⟩) s.takeSilences.restoresDue _
    ⟨.refl s.takeSilences, .refl s.takeSilences⟩
  exact step _ (fun s i => ⟨s.takeCap_step i, s.takeCap_sourceFrame i⟩) _ _
    (step _ (fun s i => ⟨s.takeEnd_step i, s.takeEnd_sourceFrame i⟩) _ _
      (step _ (fun s i => ⟨s.takeStart_step i, s.takeStart_sourceFrame i⟩) _ _
        (step _ (fun s i => ⟨s.takeLineWait_step i, s.takeLineWait_sourceFrame i⟩) _ _
          (step _ (fun s i => ⟨s.takePreroll_step i, s.takePreroll_sourceFrame i⟩) _ _ restored))))

theorem State.takeSilences_step (s : State) : TableStep s.takeRate s.takeSilences :=
  .foldl _ (fun s i => s.takeSilence_step i) _ _

theorem State.takeSilences_sources (s : State) : s.takeSilences.sources = s.takeRate.sources := by
  have fold : ∀ (l : List (Fin 48)) (t : State), (l.foldl (fun s i => s.takeSilence i) t).sources = t.sources := by
    intro l
    induction l with
    | nil => exact fun _ => rfl
    | cons a l ih => exact fun t => (ih _).trans (t.takeSilence_sources a)
  exact fold _ _

/-- The takings of a tick leave the rate interval and every silence ahead of house time (R51). -/
theorem State.takeDue_ahead {s : State} (positive : 1 ≤ s.time.rateInterval) (ahead : s.aheadLaw) :
    (∀ e, s.takeDue.time.rateExpiry = some e → s.now + 1 ≤ e) ∧ s.takeDue.silencesFrom (s.now + 1) := by
  obtain ⟨after, frame⟩ := s.takeDue_after
  obtain ⟨limits, _, _⟩ := s.takeRate_records
  have long : ∀ i : Fin 48, 10 ≤ s.takeRate.sources[i].silenceLimit := fun i => limits i ▸ (ahead.2 i).1
  refine ⟨fun e armed => ?_, frame.silencesFrom fun i => ⟨?_, fun e armed => ?_⟩⟩
  · rw [after.time, s.takeSilences_step.time] at armed
    exact State.takeRate_rateExpiry positive ahead.1 armed
  · rw [s.takeSilences_sources]
    exact long i
  · rcases State.takeSilences_ahead _ long armed with later | ⟨notDue, stood⟩
    · exact s.takeRate_now ▸ later
    · have idle : dueAt s.takeRate.now s.takeRate.health[i].silence = false := by
        simpa [State.silencesDue] using notDue
      exact s.takeRate_now ▸ lt_of_not_due idle stood

theorem State.takeDue_laws {s : State} (time : s.timeLaw) (fetch : s.fetchLaw) :
    s.takeDue.timeLaw ∧ s.takeDue.fetchLaw :=
  have taken := s.takeSilences_step.trans s.takeDue_after.1
  have rate := State.takeRate_laws time fetch
  ⟨by rw [State.timeLaw, State.decoding, taken.time, taken.ctl]; exact rate.1,
    by rw [State.fetchLaw, taken.ctl]; exact rate.2⟩

/-- The count of a tick keeps the ranges of the time base (R47, R49). -/
theorem State.count_laws {s : State} (time : s.timeLaw) (fetch : s.fetchLaw) :
    (s.modTime TimeBase.tick).timeLaw ∧ (s.modTime TimeBase.tick).fetchLaw := by
  obtain ⟨_, divisor, divisorMax, _, rate, rateMax, running, armed⟩ := time
  exact ⟨⟨Nat.min_le_left _ _, divisor, divisorMax, (show 0 < 8 by decide).trans_le divisor, rate, rateMax, running,
    armed⟩, fetch⟩

/-- The count of a tick overtakes no expiry that lies ahead of house time (R51). -/
theorem State.count_aheadLaw {s : State} (rate : ∀ e, s.time.rateExpiry = some e → s.now + 1 ≤ e)
    (silences : s.silencesFrom (s.now + 1)) : (s.modTime TimeBase.tick).aheadLaw := by
  have counted : (s.modTime TimeBase.tick).time.house ≤ s.now + 1 := Nat.min_le_right _ _
  exact ⟨fun e armed => counted.trans (rate e armed),
    fun i => ⟨(silences i).1, fun e armed => counted.trans ((silences i).2 e armed)⟩⟩

theorem State.tick_clock (s : State) : ClockStep s s.tick := by
  have taken := s.takeSilences_step.trans s.takeDue_after.1
  have now : s.takeDue.now = s.now := taken.time_now.trans s.takeRate_now
  rw [State.tick_eq]
  refine ⟨fun time fetch => ?_, fun positive => ?_, fun positive ahead => ?_⟩
  · obtain ⟨time, fetch⟩ := State.takeDue_laws time fetch
    exact State.count_laws time fetch
  · rw [State.modTime_time, taken.time, s.takeRate_time]
    exact positive
  · obtain ⟨rate, silences⟩ := State.takeDue_ahead positive ahead
    rw [← now] at rate silences
    exact State.count_aheadLaw rate silences

theorem State.edge_clock (s : State) : ClockStep s s.edge := by
  unfold State.edge
  split
  · next below =>
    refine ⟨fun time fetch => ⟨?_, fetch⟩, id, fun _ => id⟩
    obtain ⟨house, divisor, divisorMax, _, rest⟩ := time
    exact ⟨house, divisor, divisorMax, below, rest⟩
  · exact s.tick_clock

/-! ### The commands of the ports, the orders and the poster -/

theorem execMemoryPortIssue_clock (s : State) : ∃ t, execMemoryPortIssue s = .next t ∧ ClockStep s t := by
  refine ⟨_, rfl, ?_⟩
  split
  · exact .refl s
  · exact s.issueForwarded_clock
  · exact s.issueOwn_clock

theorem execMemoryResponse_clock (mtag : Nat) (resp : Resp) (s : State) :
    ∃ t, execMemoryResponse mtag resp s = .next t ∧ ClockStep s t := by
  refine ⟨_, rfl, ?_⟩
  split
  · exact .refl s
  · split
    · exact .refl s
    · exact s.modPort_clock _

theorem execOwnTrafficPlace_clock (s : State) : ∃ t, execOwnTrafficPlace s = .next t ∧ ClockStep s t := by
  refine ⟨_, rfl, ?_⟩
  split
  · exact .refl s
  · split
    · exact s.modPort_clock _
    · exact .refl s

theorem execSettingsLoadResponse_clock (mtag : Nat) (resp : Resp) (s : State) :
    ∃ t, execSettingsLoadResponse mtag resp s = .next t ∧ ClockStep s t := by
  refine ⟨_, rfl, ?_⟩
  split
  · split
    · next loading => exact (s.dropResponse_clock mtag).trans (State.settingsLoaded_clock resp loading)
    · exact .refl s
  · exact .refl s

/-- ORDER_TAKE fetches in ACTIVE alone (R28). -/
theorem execOrderTake_clock (s : State) : ∃ t, execOrderTake s = .next t ∧ ClockStep s t := by
  refine ⟨_, rfl, ?_⟩
  split
  · next takes =>
    obtain ⟨active, _⟩ := s.takesOrder_iff.1 takes
    exact .ofTime rfl (fun _ => rfl) (fun _ _ => active) (SourceFrame.silencesFrom ⟨rfl, rfl⟩)
  · exact .refl s

theorem execOrderFetchFault_clock (mtag : Nat) (s : State) :
    ∃ t, execOrderFetchFault mtag s = .next t ∧ ClockStep s t := by
  refine ⟨_, rfl, ?_⟩
  split
  · exact .refl s
  · exact (s.dropResponse_clock mtag).trans (State.answerOrder_clock _ _)

theorem execUnknownOrderKind_clock (mtag : Nat) (entry : List Byte) (s : State) :
    ∃ t, execUnknownOrderKind mtag entry s = .next t ∧ ClockStep s t := by
  refine ⟨_, rfl, ?_⟩
  split
  · exact .refl s
  · split
    · exact .refl s
    · exact (s.dropResponse_clock mtag).trans (State.answerOrder_clock _ _)

/-- HALT arrives while the processor fetches, so in ACTIVE (R28, R43). -/
theorem execHalt_clock (mtag : Nat) (entry : List Byte) (s : State) :
    ∃ t, execHalt mtag entry s = .next t ∧ ClockStep s t := by
  refine ⟨_, rfl, ?_⟩
  split
  · exact .refl s
  · next index arrives =>
    obtain ⟨_, fetching, _⟩ := State.fetchIndex_eq_some_iff.1 arrives
    split
    · split
      · exact (s.dropResponse_clock mtag).trans (State.halt_clock entry index fetching)
      · exact (s.dropResponse_clock mtag).trans (State.answerOrder_clock _ _)
    · exact .refl s

theorem execHaltCompletion_clock (s : State) : ∃ t, execHaltCompletion s = .next t ∧ ClockStep s t := by
  refine ⟨_, rfl, ?_⟩
  split
  · exact .refl s
  · split
    · exact .ofSame rfl rfl id ⟨rfl, rfl⟩
    · exact .refl s

theorem execReportWriteBegin_clock (s : State) : ∃ t, execReportWriteBegin s = .next t ∧ ClockStep s t := by
  refine ⟨_, rfl, ?_⟩
  split
  · split
    · exact (s.modPoster_clock _).trans (State.place_clock _ _)
    · exact .refl s
  · exact .refl s

theorem execReportWriteResponse_clock (mtag : Nat) (okay : Bool) (s : State) :
    ∃ t, execReportWriteResponse mtag okay s = .next t ∧ ClockStep s t := by
  refine ⟨_, rfl, ?_⟩
  split
  · split
    · exact (s.dropResponse_clock mtag).trans (State.reportWritten_clock _ _ _ _)
    · exact .refl s
  · exact .refl s

theorem execHeadWordWriteResponse_clock (mtag : Nat) (okay : Bool) (s : State) :
    ∃ t, execHeadWordWriteResponse mtag okay s = .next t ∧ ClockStep s t := by
  refine ⟨_, rfl, ?_⟩
  split
  · exact ((s.dropResponse_clock mtag).trans (State.modPoster_clock _ _)).trans
      ((State.headAnswered_clock _ _).trans (State.passiveIfAnswered_clock _))
  · exact .refl s

theorem execStatusWordWriteResponse_clock (mtag : Nat) (okay : Bool) (s : State) :
    ∃ t, execStatusWordWriteResponse mtag okay s = .next t ∧ ClockStep s t := by
  refine ⟨_, rfl, ?_⟩
  split
  · exact ((s.dropResponse_clock mtag).trans (State.statusAnswered_clock _ _)).trans
      (State.passiveIfAnswered_clock _)
  · exact s.dropResponse_clock mtag
  · exact .refl s

/-! ### Every command -/

/-- What every command does to house time. -/
theorem exec_clock (c : Instr) (s : State) : ∃ t, exec c s = .next t ∧ ClockStep s t := by
  have whenRunning : ∀ t, ClockStep s t → ClockStep s (if s.time.running then t else s) := by
    intro t h
    split
    · exact h
    · exact .refl s
  cases c with
  | resetAssert =>
    exact ⟨_, rfl, fun _ _ => ⟨State.reset_timeLaw, State.reset_fetchLaw⟩, fun _ => show 1 ≤ 1000 by decide,
      fun _ _ => State.reset_aheadLaw⟩
  | resetRelease cpsel =>
    refine ⟨_, rfl, ?_⟩
    split
    · have released : ClockStep s { s with resetLine := false, path := PathState.reset cpsel } :=
        .ofSame rfl rfl id ⟨rfl, rfl⟩
      exact released.trans (State.acceptHeld_clock _)
    · exact .refl s
  | houseTick => exact ⟨_, rfl, whenRunning _ s.tick_clock⟩
  | systemPortTransaction t => exact ⟨_, rfl, s.present_clock t⟩
  | ingressWrite t => exact ⟨_, rfl, s.present_clock t⟩
  | headerRead t => exact ⟨_, rfl, s.present_clock t⟩
  | payloadRead t => exact ⟨_, rfl, s.present_clock t⟩
  | memoryPortIssue => exact execMemoryPortIssue_clock s
  | startWrite value =>
    refine ⟨_, rfl, ?_⟩
    split
    · exact .refl s
    · exact s.handOff_clock _ _ _
  | orderTailWrite cls value => exact ⟨_, rfl, s.handOff_clock _ _ _⟩
  | reportConsumerWrite cls value => exact ⟨_, rfl, s.handOff_clock _ _ _⟩
  | memoryResponse mtag resp => exact execMemoryResponse_clock mtag resp s
  | settingsLoadResponse mtag resp => exact execSettingsLoadResponse_clock mtag resp s
  | ownTrafficPlace => exact execOwnTrafficPlace_clock s
  | orderTake => exact execOrderTake_clock s
  | orderFetchFault mtag => exact execOrderFetchFault_clock mtag s
  | defineSource mtag entry => exact ⟨_, rfl, State.runOrder_clock (defineSourceOrder_clock entry) _ _ _ s⟩
  | clear mtag entry => exact ⟨_, rfl, State.runOrder_clock (clearOrder_clock entry) _ _ _ s⟩
  | forceLeg mtag entry => exact ⟨_, rfl, State.runOrder_clock (forceLegOrder_clock entry) _ _ _ s⟩
  | tariff mtag entry => exact ⟨_, rfl, State.runOrder_clock (tariffOrder_clock entry) _ _ _ s⟩
  | book mtag entry => exact ⟨_, rfl, State.runOrder_clock (bookOrder_clock entry) _ _ _ s⟩
  | extend mtag entry => exact ⟨_, rfl, State.runOrder_clock (extendOrder_clock entry) _ _ _ s⟩
  | release mtag entry => exact ⟨_, rfl, State.runOrder_clock (releaseOrder_clock entry) _ _ _ s⟩
  | cancel mtag entry => exact ⟨_, rfl, State.runOrder_clock (cancelOrder_clock entry) _ _ _ s⟩
  | meter mtag entry => exact ⟨_, rfl, State.runOrder_clock (meterOrder_clock entry) _ _ _ s⟩
  | defineWindow mtag entry => exact ⟨_, rfl, State.runOrder_clock (defineWindowOrder_clock entry) _ _ _ s⟩
  | setTime mtag entry => exact ⟨_, rfl, State.runOrder_clock (setTimeOrder_clock entry) _ _ _ s⟩
  | halt mtag entry => exact execHalt_clock mtag entry s
  | settlementEntry => exact ⟨_, rfl, s.settlementEnter_step.clock_of_frame s.settlementEnter_sourceFrame⟩
  | reportWriteBegin => exact execReportWriteBegin_clock s
  | reportWriteResponse mtag okay => exact execReportWriteResponse_clock mtag okay s
  | headWordWriteResponse mtag okay => exact execHeadWordWriteResponse_clock mtag okay s
  | statusWordWriteResponse mtag okay => exact execStatusWordWriteResponse_clock mtag okay s
  | haltCompletion => exact execHaltCompletion_clock s
  | rateIntervalExpiry => exact ⟨_, rfl, s.takeRate_clock⟩
  | silenceExpiry src => exact ⟨_, rfl, s.takeSilence_clock src⟩
  | waitToRestoreExpiry b => exact ⟨_, rfl, (s.takeRestore_step b).clock_of_frame (s.takeRestore_sourceFrame b)⟩
  | prerollExpiry b => exact ⟨_, rfl, (s.takePreroll_step b).clock_of_frame (s.takePreroll_sourceFrame b)⟩
  | lineCheckWaitExpiry b => exact ⟨_, rfl, (s.takeLineWait_step b).clock_of_frame (s.takeLineWait_sourceFrame b)⟩
  | startExpiry b => exact ⟨_, rfl, (s.takeStart_step b).clock_of_frame (s.takeStart_sourceFrame b)⟩
  | endExpiry b => exact ⟨_, rfl, (s.takeEnd_step b).clock_of_frame (s.takeEnd_sourceFrame b)⟩
  | overrunCapExpiry b => exact ⟨_, rfl, (s.takeCap_step b).clock_of_frame (s.takeCap_sourceFrame b)⟩
  | refclkEdge => exact ⟨_, rfl, whenRunning _ s.edge_clock⟩
  | unknownOrderKind mtag entry => exact execUnknownOrderKind_clock mtag entry s

/-- A step does to house time what the command it runs does. -/
theorem step_clock {s t : State} (h : step s = .next t) : ClockStep s t := by
  unfold step at h
  split at h
  · cases h
    exact .refl s
  · next c rest _ =>
    have queued : ClockStep s { s with pending := rest } := .ofSame rfl rfl id ⟨rfl, rfl⟩
    obtain ⟨u, hu, clock⟩ := exec_clock c { s with pending := rest }
    cases hu.symm.trans h
    exact queued.trans clock

/-- Settles O53, by what every command does to house time. -/
theorem timeBaseStaysLawful : Obligations.TimeBaseStaysLawful := by
  refine ⟨fun s t time fetch h => (step_clock h).laws time fetch, fun s t time ahead h => ?_⟩
  obtain ⟨_, _, _, _, positive, _⟩ := time
  exact (step_clock h).ahead positive ahead

end Sys2Proof.Machine

namespace Sys2Proof.Machine

/-! ## Orders are taken, answered and refused (R28 to R33, R173) -/

theorem execOrderTake_of_ready {s : State} (ready : s.takesOrder = true) :
    exec .orderTake s = .next (((s.modPoster fun p => { p with reserved := true }).modCtl
      fun c => { c with fetching := true }).place s.orderFetch) := by
  simp only [exec, execOrderTake, ready, if_true]

theorem execOrderTake_of_not_ready {s : State} (idle : ¬s.takesOrder = true) : exec .orderTake s = .next s :=
  congrArg _ (if_neg idle)

/-- Settles O26: the take by its five conditions, the answer by its definition. -/
theorem ordersAreTakenAndAnswered : Obligations.OrdersAreTakenAndAnswered := by
  refine ⟨fun s => ⟨fun active idle ahead none free => ?_, fun blocked => ?_⟩, fun _ _ => rfl,
    fun _ _ _ _ => ⟨fun _ => rfl, fun _ _ => rfl⟩⟩
  · rw [execOrderTake_of_ready (s.takesOrder_iff.2 ⟨active, idle, ahead, none, free⟩)]
    rfl
  · refine execOrderTake_of_not_ready fun takes => ?_
    obtain ⟨active, idle, ahead, none, free⟩ := s.takesOrder_iff.1 takes
    rcases blocked with other | fetching | same | waiting | full
    · exact other active
    · exact Bool.false_ne_true (idle.symm.trans fetching)
    · exact ahead same
    · exact waiting none
    · exact absurd free (Nat.not_lt.2 full)

/-! ### Refusals of the entry itself (R30, R32) -/

theorem execOrderFetchFault_of_fetch {s : State} {mtag index : Nat} (fetch : s.fetchIndex mtag = some index) :
    exec (.orderFetchFault mtag) s =
      .next ((s.dropResponse mtag).answerOrder
        (.completion { kind := 0, tag := 0, index, outcome := .refused .memory })) := by
  simp only [exec, execOrderFetchFault, fetch]

theorem execUnknownOrderKind_of_unknown {s : State} {mtag index : Nat} {entry : List Byte}
    (fetch : s.fetchIndex mtag = some index) (unknown : knownKind (orderKind entry) = false) :
    exec (.unknownOrderKind mtag entry) s = .next (s.refusedWith mtag index entry .malformed) := by
  simp only [exec, execUnknownOrderKind, fetch, unknown, Bool.false_eq_true, if_false, State.refusedWith]

theorem execUnknownOrderKind_of_known (s : State) (mtag : Nat) {entry : List Byte}
    (known : knownKind (orderKind entry) = true) : exec (.unknownOrderKind mtag entry) s = .next s := by
  cases fetch : s.fetchIndex mtag <;> simp only [exec, execUnknownOrderKind, fetch, known, if_true]

theorem State.orderArrives.kind {s : State} {mtag index code : Nat} {entry : List Byte}
    (h : s.orderArrives mtag index code entry) : orderKind entry = code := by
  obtain ⟨_, _, _, kind⟩ := h
  exact kind

theorem execHalt_of_malformed {s : State} {mtag index : Nat} {entry : List Byte}
    (arrives : s.orderArrives mtag index 12 entry) (shape : shapeOk 12 entry = false) :
    exec (.halt mtag entry) s = .next (s.refusedWith mtag index entry .malformed) := by
  simp only [exec, execHalt, arrives.fetchIndex, arrives.kind, shape, if_true, Bool.false_eq_true, if_false,
    State.refusedWith]

theorem execHalt_of_shaped {s : State} {mtag index : Nat} {entry : List Byte}
    (arrives : s.orderArrives mtag index 12 entry) (shape : shapeOk 12 entry = true) :
    exec (.halt mtag entry) s = .next ((s.dropResponse mtag).halt entry index) := by
  simp only [exec, execHalt, arrives.fetchIndex, arrives.kind, shape, if_true]

theorem execHalt_of_other_kind (s : State) (mtag : Nat) {entry : List Byte} (other : orderKind entry ≠ 12) :
    exec (.halt mtag entry) s = .next s := by
  cases fetch : s.fetchIndex mtag <;> simp only [exec, execHalt, fetch, other, if_false]

theorem State.runOrder_of_other_kind (s : State) {code : Nat} (mtag : Nat) {entry : List Byte}
    (other : orderKind entry ≠ code) (body : Nat → State → State × OrderReply) :
    s.runOrder code mtag entry body = s := by
  cases fetch : s.fetchIndex mtag <;> simp only [State.runOrder, fetch, other, if_false]

/-- The rows of the kinds 1 to 11 run an order's body. -/
theorem exec_orderRow (mtag : Nat) (entry : List Byte) {code : Nat} (first : 1 ≤ code) (last : code ≤ 11) :
    ∃ body, ∀ s, exec (orderRow mtag entry code) s = .next (s.runOrder code mtag entry body) := by
  interval_cases code <;> exact ⟨_, fun _ => rfl⟩

theorem orderRow_of_unknown (mtag : Nat) (entry : List Byte) {code : Nat} (h : code = 0 ∨ 13 ≤ code) :
    orderRow mtag entry code = .unknownOrderKind mtag entry := by
  unfold orderRow
  split
  case h_13 => rfl
  all_goals omega

theorem knownKind_iff (code : Nat) : knownKind code = true ↔ 1 ≤ code ∧ code ≤ 12 := by
  rw [knownKind, Bool.and_eq_true, decide_eq_true_iff, decide_eq_true_iff]

theorem knownKind_of_unknown {code : Nat} (h : code = 0 ∨ 13 ≤ code) : knownKind code = false := by
  rw [← Bool.not_eq_true, knownKind_iff]
  omega

/-- A nonzero byte outside the fields of its kind spoils an entry's shape (R32). -/
theorem shapeOk_eq_false_of_stray_byte {code i : Nat} {entry : List Byte} (inside : i < 128)
    (unused : fieldByte code entry i = false) (nonzero : byteAt entry i ≠ 0) : shapeOk code entry = false := by
  rw [← Bool.not_eq_true, shapeOk, Bool.and_eq_true, List.all_eq_true]
  rintro ⟨_, clean⟩
  have zero : (fieldByte code entry i || byteAt entry i == 0) = true := clean i (List.mem_range.2 inside)
  rw [unused, Bool.false_or, beq_iff_eq] at zero
  exact nonzero zero

/-- A malformed entry of a known kind is refused by its row (R32). -/
theorem exec_orderRow_of_malformed {s : State} {mtag index code : Nat} {entry : List Byte} (first : 1 ≤ code)
    (last : code ≤ 12) (arrives : s.orderArrives mtag index code entry) (shape : shapeOk code entry = false) :
    exec (orderRow mtag entry code) s = .next (s.refusedWith mtag index entry .malformed) := by
  rcases Nat.le_succ_iff.1 last with body | rfl
  · obtain ⟨body, run⟩ := exec_orderRow mtag entry first body
    rw [run, State.runOrder_malformed arrives shape]
  · exact execHalt_of_malformed arrives shape

/-- A row of another kind than a known entry's is no event (log 10). -/
theorem exec_orderRow_of_other_kind (s : State) (mtag : Nat) {entry : List Byte}
    (known : knownKind (orderKind entry) = true) {other : Nat} (differs : orderKind entry ≠ other) :
    exec (orderRow mtag entry other) s = .next s := by
  by_cases unknown : other = 0 ∨ 13 ≤ other
  · rw [orderRow_of_unknown mtag entry unknown]
    exact execUnknownOrderKind_of_known s mtag known
  · by_cases halt : other = 12
    · subst halt
      exact execHalt_of_other_kind s mtag differs
    · obtain ⟨body, run⟩ := exec_orderRow mtag entry (code := other) (by omega) (by omega)
      rw [run, State.runOrder_of_other_kind s mtag differs]

/-- Settles O27: a FAULT, an unknown kind and a stray byte refuse; a row of another kind does nothing. -/
theorem faultedAndMalformedOrdersAreRefused : Obligations.FaultedAndMalformedOrdersAreRefused := by
  refine fun s mtag index entry => ⟨fun purpose fetching reserved => ?_, fun code unknown arrives => ?_,
    fun code i first last arrives => ⟨fun inside unused nonzero => ?_, fun other differs => ?_⟩⟩
  · rw [execOrderFetchFault_of_fetch (State.fetchIndex_eq_some_iff.2 ⟨purpose, fetching, reserved⟩)]
    rfl
  · exact execUnknownOrderKind_of_unknown arrives.fetchIndex (arrives.kind ▸ knownKind_of_unknown unknown)
  · exact exec_orderRow_of_malformed first last arrives (shapeOk_eq_false_of_stray_byte inside unused nonzero)
  · have kind := arrives.kind
    exact exec_orderRow_of_other_kind s mtag (kind ▸ (knownKind_iff code).2 ⟨first, last⟩) (kind ▸ differs.symm)

end Sys2Proof.Machine

namespace Sys2Proof.Machine

/-! ## The hold queue (R33 to R35, R166) -/

theorem Poster.accepts_iff (p : Poster) : p.accepts = true ↔ p.used + 5 ≤ 16 ∧ p.haltPlaced = false := by
  rw [Poster.accepts, Bool.and_eq_true, Bool.not_eq_true', decide_eq_true_iff]
  simp only [Poster.free, Poster.used, Config.noticeReserve, Config.holdCapacity]
  exact and_congr_left' (by omega)

theorem State.offer_of_accepts {s : State} (body : ReportBody) (accepts : s.poster.accepts = true) :
    s.offer body =
      { s with poster := { s.poster with hold := s.poster.hold ++ [{ created := s.time.house, body }] } } := by
  simp only [State.offer, State.modPoster, Poster.offer, accepts, if_true]
  rfl

theorem State.offer_of_refuses {s : State} (body : ReportBody) (refuses : ¬s.poster.accepts = true) :
    s.offer body = { s with poster := { s.poster with lost := min 65535 (s.poster.lost + 1) } } := by
  rw [State.offer, State.modPoster, Poster.offer, if_neg refuses]
  rfl

/-- No settlement enters while none waits or no entry is free (R35). -/
theorem State.settlementEnter_of_blocked {s : State} (blocked : s.settlements = [] ∨ 16 ≤ s.poster.used) :
    s.settlementEnter = s := by
  unfold State.settlementEnter
  split
  · rfl
  · next i rest waits =>
    have full : 16 ≤ s.poster.used := blocked.resolve_left (waits ▸ List.cons_ne_nil i rest)
    exact if_neg fun free => absurd (s.poster.one_le_free_iff.1 free) (Nat.not_lt.2 full)

theorem State.drainSettlements_of_blocked {s : State} (blocked : s.settlements = [] ∨ 16 ≤ s.poster.used) :
    s.drainSettlements = s := by
  have enters : ∀ n, s.settlementsEnter n = s := by
    intro n
    induction n with
    | zero => rfl
    | succ n ih => rw [State.settlementsEnter, State.settlementEnter_of_blocked blocked, ih]
  exact enters _

/-- The settlement that has waited longest takes a free entry, and its booking entry becomes FREE (R125, R166). -/
theorem State.settlementEnter_of_free {s : State} {i : Fin 256} {rest : List (Fin 256)} {x : Settlement}
    (waits : s.settlements = i :: rest) (held : s.bookings[i].held = some x) (free : s.poster.used < 16) :
    s.settlementEnter = { s with
      settlements := rest
      bookings := s.bookings.set i { s.bookings[i] with state := .free, held := none }
      poster := { s.poster with
        hold := s.poster.hold ++ [{ created := x.created, body := .settlement x }] } } := by
  simp only [State.settlementEnter, waits, s.poster.one_le_free_iff.2 free, if_true, held]
  rfl

/-- Draining lets the first settlement enter, and then the others (R35). -/
theorem State.drainSettlements_of_enters {s t : State} (enters : s.settlementEnter = t)
    (shorter : s.settlements.length = t.settlements.length + 1) : s.drainSettlements = t.drainSettlements := by
  rw [State.drainSettlements, shorter, State.settlementsEnter, enters, State.drainSettlements]

/-- Settles O47: the notice by the free entries, the settlement by its list. -/
theorem holdQueueTakesReports : Obligations.HoldQueueTakesReports := by
  refine fun s => ⟨fun body room plain => ?_, fun body full => ?_, fun blocked => ⟨?_, ?_⟩,
    fun i rest x waits held free => ?_⟩
  · exact State.offer_of_accepts body (s.poster.accepts_iff.2 ⟨room, plain⟩)
  · refine State.offer_of_refuses body fun accepts => ?_
    obtain ⟨room, plain⟩ := s.poster.accepts_iff.1 accepts
    rcases full with few | placed
    · exact absurd room (Nat.not_le.2 few)
    · exact Bool.false_ne_true (plain.symm.trans placed)
  · exact congrArg Host.Outcome.next (State.settlementEnter_of_blocked blocked)
  · exact State.drainSettlements_of_blocked blocked
  · have enters := State.settlementEnter_of_free waits held free
    exact ⟨congrArg Host.Outcome.next enters,
      State.drainSettlements_of_enters enters (by rw [waits, List.length_cons])⟩

/-! ## ATTN, the responses to the words, and PASSIVE entry (R26, R42 to R45) -/

theorem State.attn_iff (s : State) :
    s.attn = true ↔ s.ctl.rejected = true ∨
      (s.ctl.settings.attnEnable = true ∧ s.poster.published ≠ s.poster.consumer) := by
  rw [State.attn, Bool.or_eq_true, Bool.and_eq_true, bne_iff_ne]

/-- The head word whose response is the latest in issue order is the published one (R42). -/
theorem Poster.publish_of_later {p : Poster} {mtag : Nat} (value : Nat)
    (later : ∀ t, p.publishedTag = some t → t < mtag) :
    p.publish mtag value = { p with published := value, publishedTag := some mtag } := by
  unfold Poster.publish
  refine if_pos ?_
  split
  · rfl
  · next t tag => exact decide_eq_true (later t tag)

theorem Poster.publish_of_earlier {p : Poster} {mtag : Nat} (value : Nat)
    (earlier : ¬∀ t, p.publishedTag = some t → t < mtag) : p.publish mtag value = p := by
  unfold Poster.publish
  refine if_neg fun c => earlier fun t tag => ?_
  rw [tag] at c
  exact of_decide_eq_true c

theorem State.passiveIfAnswered_of_answered {s : State}
    (answered : s.ctl.passiveWait = some { status := false, head := false }) :
    s.passiveIfAnswered = s.passiveEntry := by
  simp only [State.passiveIfAnswered, answered]

theorem State.passiveIfAnswered_of_waits {s : State}
    (waits : s.ctl.passiveWait ≠ some { status := false, head := false }) : s.passiveIfAnswered = s := by
  unfold State.passiveIfAnswered
  split
  · next answered => exact absurd answered waits
  · rfl

theorem execHeadWordWriteResponse_of_head {s : State} {mtag value : Nat} {final : Bool}
    (head : s.port.ownPurpose mtag = some (.reportHead value final)) (okay : Bool) :
    exec (.headWordWriteResponse mtag okay) s =
      .next (((s.dropResponse mtag).modPoster (·.publish mtag value)).modCtl
        (·.headAnswered final)).passiveIfAnswered := by
  simp only [exec, execHeadWordWriteResponse, head]

theorem execStatusWordWriteResponse_of_status {s : State} {mtag : Nat} {passive : Bool}
    (status : s.port.ownPurpose mtag = some (.status passive)) (okay : Bool) :
    exec (.statusWordWriteResponse mtag okay) s =
      .next ((s.dropResponse mtag).modCtl (·.statusAnswered passive)).passiveIfAnswered := by
  simp only [exec, execStatusWordWriteResponse, status]

theorem execStatusWordWriteResponse_of_orderHead {s : State} {mtag value : Nat}
    (head : s.port.ownPurpose mtag = some (.orderHead value)) (okay : Bool) :
    exec (.statusWordWriteResponse mtag okay) s = .next (s.dropResponse mtag) := by
  simp only [exec, execStatusWordWriteResponse, head]

/-- The awaited head word is answered first: the status write is still awaited (R44). -/
theorem State.headAnswered_waits {s : State} {h : Bool}
    (wait : s.ctl.passiveWait = some { status := true, head := h }) :
    (s.modCtl (·.headAnswered true)).passiveIfAnswered =
      { s with ctl := { s.ctl with passiveWait := some { status := true, head := false } } } := by
  have left : (s.modCtl (·.headAnswered true)).ctl.passiveWait = some { status := true, head := false } := by
    simp [Control.headAnswered, wait]
  rw [State.passiveIfAnswered_of_waits (left ▸ by decide)]
  simp [State.modCtl, Control.headAnswered, wait]

/-- The awaited head word is answered last: PASSIVE entry (R44). -/
theorem State.headAnswered_last {s : State} {h : Bool}
    (wait : s.ctl.passiveWait = some { status := false, head := h }) :
    (s.modCtl (·.headAnswered true)).passiveIfAnswered = s.passiveEntry := by
  rw [State.passiveIfAnswered_of_answered (by simp [Control.headAnswered, wait])]
  rfl

theorem State.statusAnswered_waits {s : State} {t : Bool}
    (wait : s.ctl.passiveWait = some { status := t, head := true }) :
    (s.modCtl (·.statusAnswered true)).passiveIfAnswered =
      { s with ctl := { s.ctl with passiveWait := some { status := false, head := true } } } := by
  have left : (s.modCtl (·.statusAnswered true)).ctl.passiveWait = some { status := false, head := true } := by
    simp [Control.statusAnswered, wait]
  rw [State.passiveIfAnswered_of_waits (left ▸ by decide)]
  simp [State.modCtl, Control.statusAnswered, wait]

theorem State.statusAnswered_last {s : State} {t : Bool}
    (wait : s.ctl.passiveWait = some { status := t, head := false }) :
    (s.modCtl (·.statusAnswered true)).passiveIfAnswered = s.passiveEntry := by
  rw [State.passiveIfAnswered_of_answered (by simp [Control.statusAnswered, wait])]
  rfl

/-- Settles O50: the ATTN line, each awaited response in its order, and PASSIVE entry field by field. -/
theorem wordResponsesAndPassiveEntry : Obligations.WordResponsesAndPassiveEntry := by
  refine ⟨State.attn_iff, ?_, fun s => ?_⟩
  · intro s mtag okay s0 later wait
    refine ⟨fun value final head => ?_, fun value head => execStatusWordWriteResponse_of_orderHead head okay,
      fun status idle => ?_, fun status => ⟨fun t waits => ?_, fun t waits => ?_⟩⟩
    · have run := execHeadWordWriteResponse_of_head head okay
      refine ⟨s0.modPoster (·.publish mtag value), fun l => ?_, fun e => ?_, fun plain idle => ?_,
        fun h last waits => ?_, fun h last waits => ?_⟩
      · rw [State.modPoster, Poster.publish_of_later (p := s0.poster) value l]
      · rw [State.modPoster, Poster.publish_of_earlier (p := s0.poster) value e]
      · rw [run, plain]
        exact congrArg _ (State.passiveIfAnswered_of_waits (s := s0.modPoster (·.publish mtag value)) idle)
      · rw [run, last]
        exact congrArg _ (State.headAnswered_waits (s := s0.modPoster (·.publish mtag value)) waits)
      · rw [run, last]
        exact congrArg _ (State.headAnswered_last (s := s0.modPoster (·.publish mtag value)) waits)
    · rw [execStatusWordWriteResponse_of_status status okay]
      exact congrArg _ (State.passiveIfAnswered_of_waits (s := s0) idle)
    · rw [execStatusWordWriteResponse_of_status status okay]
      exact congrArg _ (State.statusAnswered_waits (s := s0) waits)
    · rw [execStatusWordWriteResponse_of_status status okay]
      exact congrArg _ (State.statusAnswered_last (s := s0) waits)
  · refine ⟨rfl, rfl, rfl, rfl, rfl, rfl, rfl, rfl, rfl, rfl, rfl, rfl, rfl, fun i => ?_, rfl, rfl, rfl⟩
    rw [State.reset_booking]
    exact Vector.getElem_map ..

/-! ## HALT (R43, R44, R126) -/

/-- A booking that is not live is FREE or SETTLING (R106). -/
theorem BookingState.live_eq_false_iff (x : BookingState) : x.live = false ↔ x = .free ∨ x = .settling := by
  cases x <;> simp [BookingState.live]

theorem BookingState.live_eq_decide (x : BookingState) : x.live = decide (x ≠ .free ∧ x ≠ .settling) := by
  cases x <;> rfl

/-- `t` follows from `s` with every closed booking still closed. -/
def State.keepsClosed (s t : State) : Prop :=
  ∀ i : Fin 256, s.bookings[i].state.live = false → t.bookings[i].state.live = false

theorem State.settlementEnter_keepsClosed (s : State) : s.keepsClosed s.settlementEnter := by
  intro j closed
  unfold State.settlementEnter
  split
  · exact closed
  · next i rest _ =>
    split
    · by_cases same : i = j
      · subst same
        exact (congrArg (fun b : Booking => b.state.live) (State.modBooking_same i Booking.freed s) :)
      · exact (congrArg (fun b : Booking => b.state.live) (State.modBooking_other same Booking.freed s) :).trans closed
    · exact closed

theorem State.drainSettlements_keepsClosed (s : State) : s.keepsClosed s.drainSettlements := by
  have enters : ∀ (n : Nat) (s : State), s.keepsClosed (s.settlementsEnter n) := by
    intro n
    induction n with
    | zero => exact fun _ _ => id
    | succ n ih => exact fun s i => ih _ i ∘ s.settlementEnter_keepsClosed i
  exact enters _ s

/-- A close leaves its booking and every closed one closed (R124, R125). -/
theorem State.closeBooking_closes (i : Fin 256) (r : EndReason) (w : Bool) (s : State) :
    (s.closeBooking i r w).bookings[i].state.live = false ∧ s.keepsClosed (s.closeBooking i r w) := by
  refine ⟨State.drainSettlements_keepsClosed _ i ?_, fun j closed => State.drainSettlements_keepsClosed _ j ?_⟩
  · simp [Booking.closed, BookingState.live]
  · by_cases same : i = j
    · subst same
      simp [Booking.closed, BookingState.live]
    · have other : i.val ≠ j.val := fun e => same (Fin.ext e)
      simpa [other] using closed

theorem State.closeBookings_closes (r : EndReason) (w : Bool) (l : List (Fin 256)) (s : State) {i : Fin 256}
    (h : i ∈ l ∨ s.bookings[i].state.live = false) :
    (l.foldl (fun s i => s.closeBooking i r w) s).bookings[i].state.live = false := by
  induction l generalizing s with
  | nil => exact h.resolve_left List.not_mem_nil
  | cons a l ih =>
    obtain ⟨closes, keeps⟩ := s.closeBooking_closes a r w
    refine ih (s.closeBooking a r w) ?_
    rcases h with mem | closed
    · rcases List.mem_cons.1 mem with rfl | later
      · exact Or.inr closes
      · exact Or.inl later
    · exact Or.inr (keeps i closed)

/-- HALT leaves no booking live (R126). -/
theorem State.haltBookings_closes (s : State) (i : Fin 256) : s.haltBookings.bookings[i].state.live = false := by
  refine s.closeBookings_closes .halted false _ ?_
  cases live : s.bookings[i].state.live with
  | false => exact Or.inr rfl
  | true => exact Or.inl (List.mem_filter.2 ⟨List.mem_finRange i, live⟩)

theorem execHaltCompletion_of_ready {s : State} {a : HaltAnswer} (answer : s.ctl.haltAnswer = some a)
    (ready : s.ctl.act = .halting ∧ s.settlements = [] ∧ s.poster.reserved = true) :
    exec .haltCompletion s =
      .next ((s.modCtl fun c => { c with haltAnswer := none }).modPoster
        fun p => { p.fillReserved a.report with haltPlaced := true }) := by
  simp only [exec, execHaltCompletion, answer]
  exact congrArg _ (if_pos ready)

theorem execHaltCompletion_of_not_ready {s : State}
    (h : s.ctl.haltAnswer = none ∨ s.ctl.act ≠ .halting ∨ s.settlements ≠ []) :
    exec .haltCompletion s = .next s := by
  cases answer : s.ctl.haltAnswer with
  | none => simp only [exec, execHaltCompletion, answer]
  | some a =>
    simp only [exec, execHaltCompletion, answer]
    refine congrArg _ (if_neg ?_)
    rintro ⟨halting, none, _⟩
    rcases h with absent | other | waiting
    · cases answer.symm.trans absent
    · exact other halting
    · exact waiting none

/-- Settles O51: HALT closes what is live, and the completion waits for the settlements. -/
theorem haltClosesEveryBooking : Obligations.HaltClosesEveryBooking := by
  refine ⟨?_, fun s => ⟨fun a answer halting none reserved => ?_,
    execHaltCompletion_of_not_ready⟩⟩
  · intro s mtag index entry arrives shape head
    refine ⟨_, execHalt_of_shaped arrives shape, ?_, ?_, ?_, fun i => ?_⟩
    · simp only [← BookingState.live_eq_decide]
      rfl
    · exact (congrArg Control.act (State.haltBookings_step _).ctl :)
    · obtain ⟨_, _, reserved, _⟩ := arrives
      exact (State.haltBookings_step _).reserved.trans reserved
    · exact (BookingState.live_eq_false_iff _).1 (State.haltBookings_closes _ i)
  · rw [execHaltCompletion_of_ready answer ⟨halting, none, reserved⟩]
    rfl

end Sys2Proof.Machine

namespace Sys2Proof.Machine

/-! ## Validation of the settings block (R22, R25, Table 2-3) -/

/-! ### The groups of Table 2-3 -/

/-- The entry counts that GEOMETRY admits for a ring are the powers of two it lists (Table 2-3). -/
theorem ringCount_iff (c : Nat) :
    [16, 32, 64, 128, 256, 512, 1024, 2048, 4096].contains c = true ↔ ∃ n, 4 ≤ n ∧ n ≤ 12 ∧ c = 2 ^ n := by
  rw [List.contains_iff_mem]
  constructor
  · have powers : ∀ x ∈ [16, 32, 64, 128, 256, 512, 1024, 2048, 4096], ∃ n ≤ 12, 4 ≤ n ∧ x = 2 ^ n := by decide
    intro mem
    obtain ⟨n, last, first, eq⟩ := powers c mem
    exact ⟨n, first, last, eq⟩
  · rintro ⟨n, first, last, rfl⟩
    interval_cases n <;> decide

theorem SettingsFields.geometryOk_iff (f : SettingsFields) :
    f.geometryOk = true ↔
      (f.d = 16 ∨ f.d = 32 ∨ f.d = 64) ∧ (f.z = 2048 ∨ f.z = 4096 ∨ f.z = 8192) ∧
        (∃ n, 4 ≤ n ∧ n ≤ 12 ∧ f.orderCount = 2 ^ n) ∧ ∃ n, 4 ≤ n ∧ n ≤ 12 ∧ f.reportCount = 2 ^ n := by
  rw [SettingsFields.geometryOk, Bool.and_eq_true, Bool.and_eq_true, Bool.and_eq_true, ringCount_iff, ringCount_iff,
    and_assoc, and_assoc]
  simp only [List.contains_iff_mem, List.mem_cons, List.not_mem_nil, or_false]

/-- Four class codes are known (Table 9-1). -/
theorem classOf?_isSome_iff (c : Nat) : (classOf? c).isSome = true ↔ c ≤ 3 := by
  match c with
  | 0 | 1 | 2 | 3 => decide
  | n + 4 => simp [classOf?]

theorem flagOf?_isSome_iff (n : Nat) : (flagOf? n).isSome = true ↔ n ≤ 1 := by
  match n with
  | 0 | 1 => decide
  | n + 2 => simp [flagOf?]

theorem SettingsFields.classes_iff (f : SettingsFields) :
    f.classes.toList.all (fun c => (classOf? c).isSome) = true ↔ ∀ i : Fin 16, f.classes[i] ≤ 3 := by
  simp only [List.all_eq_true, classOf?_isSome_iff, Vector.mem_toList_iff, Vector.mem_iff_getElem]
  exact ⟨fun all i => all _ ⟨i.val, i.isLt, rfl⟩, fun all x ⟨i, hi, eq⟩ => eq ▸ all ⟨i, hi⟩⟩

theorem SettingsFields.rangeOk_iff {f : SettingsFields} (slot : 32 ≤ f.z) :
    f.rangeOk = true ↔
      (∀ i : Fin 16, f.classes[i] ≤ 3) ∧ f.attn ≤ 1 ∧ f.preroll ≤ 600000 ∧ f.lineWait ≤ 30000 ∧
        f.lmin ≤ f.z - 32 ∧ f.ingressBase < 2 ^ 40 ∧ f.deliveryBase < 2 ^ 40 ∧ f.orderBase < 2 ^ 40 ∧
        f.reportBase < 2 ^ 40 ∧ f.initialTime < 2 ^ 40 := by
  simp only [SettingsFields.rangeOk, Bool.and_eq_true, f.classes_iff, flagOf?_isSome_iff, decide_eq_true_eq, and_assoc,
    Nat.le_sub_iff_add_le slot]

/-- The least power of two not below `n` lies below `2 * n`. -/
theorem pow2Ceil_bounds {n : Nat} (h : 2 ≤ n) : n ≤ pow2Ceil n ∧ pow2Ceil n < 2 * n := by
  have low := Nat.log2_self_le (n := n - 1) (by omega)
  have high := Nat.lt_log2_self (n := n - 1)
  rw [Nat.pow_succ] at high
  rw [pow2Ceil, Nat.pow_succ]
  omega

/-- A power of two that is not below `n` and lies below `2 * n` is the least of them. -/
theorem eq_pow2Ceil {n k : Nat} (h : 2 ≤ n) (low : n ≤ 2 ^ k) (high : 2 ^ k < 2 * n) : 2 ^ k = pow2Ceil n := by
  obtain ⟨ceilLow, ceilHigh⟩ := pow2Ceil_bounds h
  rw [pow2Ceil] at *
  have below : k < Nat.log2 (n - 1) + 1 + 1 := by
    rw [← Nat.pow_lt_pow_iff_right (a := 2) (by decide), Nat.pow_succ]
    omega
  have above : Nat.log2 (n - 1) + 1 < k + 1 := by
    rw [← Nat.pow_lt_pow_iff_right (a := 2) (by decide), Nat.pow_succ _ k]
    omega
  rw [show k = Nat.log2 (n - 1) + 1 by omega]

theorem mod_pow2Ceil_iff {n : Nat} (h : 2 ≤ n) (base : Nat) :
    base % pow2Ceil n = 0 ↔ ∃ k, base % 2 ^ k = 0 ∧ n ≤ 2 ^ k ∧ 2 ^ k < 2 * n := by
  constructor
  · exact fun aligned => ⟨_, aligned, pow2Ceil_bounds h⟩
  · rintro ⟨k, aligned, low, high⟩
    exact eq_pow2Ceil h low high ▸ aligned

theorem SettingsFields.alignOk_iff {f : SettingsFields} (size : 2 ≤ 48 * f.d * f.z) :
    f.alignOk = true ↔
      (∃ n, f.ingressBase % 2 ^ n = 0 ∧ 48 * f.d * f.z ≤ 2 ^ n ∧ 2 ^ n < 2 * (48 * f.d * f.z)) ∧
        f.deliveryBase % (32 * f.d * f.z) = 0 ∧ f.orderBase % (f.orderCount * 128) = 0 ∧
        f.reportBase % (f.reportCount * 128) = 0 := by
  simp only [SettingsFields.alignOk, Bool.and_eq_true, beq_iff_eq, and_assoc, ← mod_pow2Ceil_iff size,
    SettingsFields.ingressSize, SettingsFields.deliverySize]

theorem areasApart_iff (a b : Nat × Nat) : areasApart a b = true ↔ a.1 + a.2 ≤ b.1 ∨ b.1 + b.2 ≤ a.1 := by
  rw [areasApart, Bool.or_eq_true, decide_eq_true_iff, decide_eq_true_iff]

theorem allApart_iff (l : List (Nat × Nat)) :
    allApart l = true ↔ l.Pairwise fun a b => a.1 + a.2 ≤ b.1 ∨ b.1 + b.2 ≤ a.1 := by
  induction l with
  | nil => simp [allApart]
  | cons a l ih => simp only [allApart, Bool.and_eq_true, List.all_eq_true, areasApart_iff, List.pairwise_cons, ih]

/-- Any two places of a list that is pairwise related are related, the earlier first. -/
theorem pairwise_iff_getElem? {α : Type} {R : α → α → Prop} {l : List α} :
    l.Pairwise R ↔ ∀ x y : α, ∀ i j : Nat, i < j → l[i]? = some x → l[j]? = some y → R x y := by
  rw [List.pairwise_iff_getElem]
  constructor
  · intro related x y i j before hx hy
    obtain ⟨hi, rfl⟩ := List.getElem?_eq_some_iff.1 hx
    obtain ⟨hj, rfl⟩ := List.getElem?_eq_some_iff.1 hy
    exact related i j hi hj before
  · exact fun related i j hi hj before =>
      related _ _ i j before (List.getElem?_eq_getElem hi) (List.getElem?_eq_getElem hj)

theorem SettingsFields.overlapOk_iff (f : SettingsFields) (pageBase : Nat) :
    f.overlapOk pageBase = true ↔
      (∀ x y : Nat × Nat, ∀ i j : Nat, i < j → (f.areas pageBase)[i]? = some x → (f.areas pageBase)[j]? = some y →
        x.1 + x.2 ≤ y.1 ∨ y.1 + y.2 ≤ x.1) ∧ ∀ x ∈ f.areas pageBase, x.1 + x.2 ≤ 2 ^ 40 := by
  rw [SettingsFields.overlapOk, Bool.and_eq_true, allApart_iff, pairwise_iff_getElem?, List.all_eq_true]
  exact and_congr_right' (forall₂_congr fun _ _ => decide_eq_true_iff)

/-! ### The verdict (R22) -/

section Verdict

variable {b : List Byte} {start : Word32} {pageBase : Nat}

theorem validateSettings_check (h : settingsCheck b ≠ settingsCheckField b ∨ settingsCheck b ≠ start) :
    validateSettings b start pageBase = some .check := if_pos h

theorem validateSettings_groups (h : ¬(settingsCheck b ≠ settingsCheckField b ∨ settingsCheck b ≠ start)) :
    validateSettings b start pageBase =
      if (settingsFields b).geometryOk = false then some .geometry
      else if (settingsFields b).rangeOk = false then some .range
      else if (settingsFields b).alignOk = false then some .align
      else if (settingsFields b).overlapOk pageBase = false then some .overlap
      else none := by
  simp only [validateSettings, if_neg h, Bool.not_eq_true']

end Verdict

/-! ### A rejected load (R25) -/

theorem exec_settingsLoadResponse {s : State} {mtag : Nat} (resp : Resp)
    (load : s.port.ownPurpose mtag = some .settingsLoad) (loading : s.ctl.act = .loading) :
    exec (.settingsLoadResponse mtag resp) s = .next ((s.dropResponse mtag).settingsLoaded resp) := by
  simp only [exec, execSettingsLoadResponse, load, loading, if_true]

theorem State.settingsLoaded_of_failed {s : State} {data : List Byte} {reason : RejectReason}
    (fails : validateSettings data s.ctl.startValue s.path.pageBase = some reason) :
    s.settingsLoaded (.okay data) = s.rejectActivation reason (settingsCheck data) := by
  simp only [State.settingsLoaded, fails]

/-- The load's response rejects the activation when memory answers FAULT or the block fails (R22, R25). -/
theorem exec_settingsLoadResponse_of_rejected {s : State} {mtag : Nat} {r : Resp} {reason : RejectReason}
    {check : Word32} (load : s.port.ownPurpose mtag = some .settingsLoad) (loading : s.ctl.act = .loading)
    (h : (r = .fault ∧ reason = .memory ∧ check = 0) ∨
      ∃ data, r = .okay data ∧ check = settingsCheck data ∧
        validateSettings data s.ctl.startValue s.path.pageBase = some reason) :
    exec (.settingsLoadResponse mtag r) s = .next ((s.dropResponse mtag).rejectActivation reason check) := by
  rw [exec_settingsLoadResponse r load loading]
  rcases h with ⟨rfl, rfl, rfl⟩ | ⟨data, rfl, rfl, fails⟩
  · rfl
  · rw [State.settingsLoaded_of_failed (s := s.dropResponse mtag) fails]

/-- Settles O24: the groups in their order, each as its rows say, and the rejection as one write. -/
theorem settingsAreValidatedOrRejected : Obligations.SettingsAreValidatedOrRejected := by
  constructor
  · intro b start pageBase v f sum badCheck
    have groups : ¬badCheck → v = _ := validateSettings_groups
    refine ⟨validateSettings_check, fun check geometry => ?_, fun check geometry range => ?_,
      fun check geometry range align => ?_, fun check geometry range align overlap => ?_,
      fun check geometry range align overlap => ?_, f.geometryOk_iff, fun geometry => ?_, f.overlapOk_iff pageBase⟩
    · simp [groups check, geometry, f]
    · simp [groups check, geometry, range, f]
    · simp [groups check, geometry, range, align, f]
    · simp [groups check, geometry, range, align, overlap, f]
    · simp [groups check, geometry, range, align, overlap, f]
    · obtain ⟨depth, slot, _⟩ := f.geometryOk_iff.1 geometry
      have size : 2 ≤ 48 * f.d * f.z := by
        rcases depth with d | d | d <;> rcases slot with z | z | z <;> rw [d, z] <;> decide
      exact ⟨SettingsFields.rangeOk_iff (by omega), SettingsFields.alignOk_iff size⟩
  · intro s mtag r reason check load loading rejected
    exact ⟨_, exec_settingsLoadResponse_of_rejected load loading rejected, rfl, rfl⟩

end Sys2Proof.Machine

namespace Sys2Proof.Machine

/-! ## The rate-interval expiry (R54, R74) -/

/-- Notices offered one after another all join the queue while its reserve of 4 entries stays free (R34). -/
theorem Poster.foldl_offer_of_room {α : Type} (now : Nat) (body : α → ReportBody) (l : List α) {p : Poster}
    (halt : p.haltPlaced = false) (room : l.length + 4 ≤ p.free) :
    l.foldl (fun p a => p.offer now (body a)) p =
      { p with hold := p.hold ++ l.map fun a => { created := now, body := body a } } := by
  induction l generalizing p with
  | nil => simp
  | cons a l ih =>
    simp only [List.length_cons, Poster.free, Config.holdCapacity] at room
    have accepts : p.accepts = true := by
      refine p.accepts_iff.2 ⟨?_, halt⟩
      unfold Poster.used
      omega
    have joins : p.offer now (body a) = p.enqueue { created := now, body := body a } := if_pos accepts
    rw [List.foldl_cons, joins, ih (p := p.enqueue { created := now, body := body a }) halt]
    · simp [Poster.enqueue]
    · simp only [Poster.enqueue, Poster.free, Config.holdCapacity, List.length_append, List.length_singleton]
      omega

/-- The RATE notices touch the poster alone, and each is of the source record at the expiry. -/
theorem State.offerRates_eq (s : State) :
    s.offerRates = s.modPoster fun p =>
      s.overRateSources.foldl (fun p (i : Fin 48) => p.offer s.now (s.sources[i].rateNotice i)) p := by
  have fold : ∀ (l : List (Fin 48)) (s : State),
      l.foldl (fun s (i : Fin 48) => s.offer (s.sources[i].rateNotice i)) s =
        s.modPoster fun p => l.foldl (fun p (i : Fin 48) => p.offer s.now (s.sources[i].rateNotice i)) p := by
    intro l
    induction l with
    | nil => exact fun _ => rfl
    | cons i l ih => exact fun s => ih (s.offer (s.sources[i].rateNotice i))
  exact fold _ s

theorem execRateIntervalExpiry_of_due {s : State} {due : Nat} (armed : s.time.rateExpiry = some due)
    (reached : due ≤ s.time.house) :
    exec .rateIntervalExpiry s =
      .next ((s.modTime fun b => { b with rateExpiry := some (due + b.rateInterval) }).closeInterval) :=
  congrArg Host.Outcome.next (State.takeRate_of_due armed reached)

/-- Settles O7: the time base keeps its grid, and the close of the interval is the notices and then the figures. -/
theorem rateIntervalExpiryEndsTheInterval : Obligations.RateIntervalExpiryEndsTheInterval := by
  intro s due armed reached
  refine ⟨_, execRateIntervalExpiry_of_due armed reached, ?_⟩
  rw [State.closeInterval, State.offerRates_eq]
  refine ⟨rfl, fun i => ?_, fun halt room => Poster.foldl_offer_of_room _ _ _ halt room,
    rfl, rfl, rfl, rfl, rfl, rfl, rfl, rfl, rfl, rfl, rfl, rfl⟩
  exact Vector.getElem_map ..

/-! ## SET_TIME (R55, R56) -/

theorem State.allFree_iff (s : State) : s.allFree = true ↔ ∀ i : Fin 256, s.bookings[i].state = .free := by
  simp only [State.allFree, List.all_eq_true, Vector.mem_toList_iff, Vector.mem_iff_getElem, beq_iff_eq,
    forall_exists_index]
  exact ⟨fun h i => h _ i.val i.isLt rfl, fun h b i lt e => e ▸ h ⟨i, lt⟩⟩

section SetTime

variable {entry : List Byte} {n : Nat} {s : State}

theorem setTimeOrder_of_beyond (beyond : 2 ^ 40 - 1 < field entry 8 8) :
    setTimeOrder entry n s = refuseOrder .range s := if_pos beyond

theorem setTimeOrder_of_busy (inRange : field entry 8 8 ≤ 2 ^ 40 - 1) {i : Fin 256}
    (busy : s.bookings[i].state ≠ .free) : setTimeOrder entry n s = refuseOrder .busy s := by
  have notFree : s.allFree = false := Bool.eq_false_iff.2 fun free => busy (s.allFree_iff.1 free i)
  refine (if_neg (Nat.not_lt.2 inRange)).trans (if_pos ?_)
  rw [notFree]
  rfl

theorem setTimeOrder_of_free (inRange : field entry 8 8 ≤ 2 ^ 40 - 1)
    (free : ∀ i : Fin 256, s.bookings[i].state = .free) :
    setTimeOrder entry n s =
      doneOrder false (.setTime s.now (field entry 8 8)) (s.setHouse (field entry 8 8)) := by
  refine (if_neg (Nat.not_lt.2 inRange)).trans (if_neg ?_)
  rw [s.allFree_iff.2 free]
  decide

end SetTime

theorem State.setHouse_health (new : Nat) (s : State) (i : Fin 48) :
    (s.setHouse new).health[i] =
      { s.health[i] with silence := s.health[i].silence.map (shiftExpiry s.now new) } :=
  Vector.getElem_map ..

theorem State.setHouse_booking (new : Nat) (s : State) (i : Fin 256) :
    (s.setHouse new).bookings[i] = s.bookings[i].shift (shiftExpiry s.now new) :=
  Vector.getElem_map ..

/-- Settles O9: the two refusals, and the shift of every armed expiry with house time. -/
theorem setTimeMovesEveryExpiry : Obligations.SetTimeMovesEveryExpiry := by
  intro s mtag index entry arrives shape
  refine ⟨fun beyond => ?_, fun inRange ⟨i, busy⟩ => ?_, fun inRange free => ?_⟩
  · exact congrArg Host.Outcome.next (State.runOrder_refused arrives shape (setTimeOrder_of_beyond beyond))
  · exact congrArg Host.Outcome.next
      (State.runOrder_refused arrives shape (setTimeOrder_of_busy (s := s.dropResponse mtag) inRange busy))
  · refine ⟨(s.dropResponse mtag).setHouse (field entry 8 8), ?_, rfl, rfl, rfl, rfl, State.setHouse_health _ _,
      rfl, rfl, rfl, rfl, rfl, rfl, rfl, rfl, rfl, rfl, fun i => ?_⟩
    · exact congrArg Host.Outcome.next
        (State.runOrder_done arrives shape (setTimeOrder_of_free (s := s.dropResponse mtag) inRange free))
    · rw [State.setHouse_booking]
      exact ⟨free i, rfl⟩

end Sys2Proof.Machine

namespace Sys2Proof.Machine

/-! ## House time decreases at three commands alone (R49, R50)

Every other command leaves house time, but for a tick, which raises it. -/

theorem State.foldl_now {α : Type} {f : State → α → State} (h : ∀ s a, (f s a).now = s.now) (l : List α) (s : State) :
    (l.foldl f s).now = s.now := by
  induction l generalizing s with
  | nil => rfl
  | cons a l ih => exact (ih (f s a)).trans (h s a)

/-! ### The system port -/

theorem State.windowRead_now (t : Txn) (w : Fin 32) (k off : Nat) (s : State) :
    (s.windowRead t w k off).now = s.now := by
  have fill : ∀ x reason, (s.answerFill t w k x reason).now = s.now := by
    intro x reason
    rw [State.answerFill_eq, State.modPort_now, State.fillTables_frame]
    rfl
  have deliver : ∀ x leg src m e, (s.answerDeliver t w k x leg src m e).now = s.now := fun x leg src m e =>
    (State.feedHolder_step x.holder _ (s.putWindow w (x.deliver s.ctl.settings.d k leg src m e).advance)).time_now
  unfold State.windowRead State.windowHeaderRead State.windowPayloadRead
  split
  · split
    · exact fill _ _
    · exact deliver _ _ _ _ _
  · split <;> rfl

theorem State.refuse_now (t : Txn) (kind : StrayKind) (s : State) : (s.refuse t kind).now = s.now := by
  unfold State.refuse
  dsimp only
  split <;> rfl

theorem State.accept_now (t : Txn) (s : State) : (s.accept t).now = s.now := by
  unfold State.accept
  dsimp only
  split
  · split
    · rfl
    · exact (State.ingress_step _ _ _ _ _).time_now
    · exact s.windowRead_now _ _ _ _
    · exact s.refuse_now _ _
  · rfl

theorem State.present_now (t : Txn) (s : State) : (s.present t).now = s.now := by
  unfold State.present
  split
  · rfl
  · exact s.accept_now t

theorem State.acceptHeld_now (s : State) : s.acceptHeld.now = s.now := by
  have take : ∀ s : State, s.takeHeld.now = s.now := by
    intro s
    unfold State.takeHeld
    split
    · rfl
    · split
      · rfl
      · exact State.accept_now _ _
  have takes : ∀ (n : Nat) (s : State), (s.takesHeld n).now = s.now := by
    intro n
    induction n with
    | zero => exact fun _ => rfl
    | succ n ih => exact fun s => (ih _).trans (take s)
  exact takes _ s

/-! ### Watched words and issue -/

theorem State.handOff_now (word : WatchedWord) (cls : InitiatorClass) (value : Word32) (s : State) :
    (s.handOff word cls value).now = s.now := by
  have tail : (s.tailWrite value).now = s.now := by
    unfold State.tailWrite
    split <;> rfl
  have consumer : (s.consumerWrite value).now = s.now := by
    unfold State.consumerWrite
    dsimp only
    split <;> rfl
  unfold State.handOff
  cases word
  case start => dsimp only; split <;> rfl
  case orderTail =>
    dsimp only
    split
    · exact tail
    · rfl
  case reportConsumer =>
    dsimp only
    split
    · exact consumer
    · rfl

theorem State.issueForwarded_now (s : State) : s.issueForwarded.now = s.now := by
  unfold State.issueForwarded
  split
  · rfl
  · refine (State.acceptHeld_now _).trans (State.foldl_now (fun u w => ?_) _ _)
    split
    · rfl
    · exact u.handOff_now _ _ _

/-! ### Orders -/

theorem State.runOrder_now {body : Nat → State → State × OrderReply} (hb : ∀ n s, (body n s).1.now = s.now)
    (code mtag : Nat) (entry : List Byte) (s : State) : (s.runOrder code mtag entry body).now = s.now := by
  unfold State.runOrder
  split
  · rfl
  · split
    · dsimp only
      split
      · exact hb _ _
      · rfl
    · rfl

theorem defineSourceOrder_now (e : List Byte) (n : Nat) (s : State) : (defineSourceOrder e n s).1.now = s.now := by
  unfold defineSourceOrder
  split
  · rfl
  · split
    · rfl
    · exact (State.defineHealth_step _ _ _).time_now

theorem clearOrder_now (e : List Byte) (n : Nat) (s : State) : (clearOrder e n s).1.now = s.now := by
  unfold clearOrder
  split
  · rfl
  · split
    · exact (s.clearSource_step _).time_now
    · rfl

theorem forceLegOrder_now (e : List Byte) (n : Nat) (s : State) : (forceLegOrder e n s).1.now = s.now := by
  unfold forceLegOrder
  dsimp only
  repeat' split
  case h_2.isFalse.isTrue => exact (s.forceLeg_quiet _ _).time_now
  all_goals rfl

theorem tariffOrder_now (e : List Byte) (n : Nat) (s : State) : (tariffOrder e n s).1.now = s.now := by
  unfold tariffOrder
  split <;> rfl

theorem bookOrder_now (e : List Byte) (n : Nat) (s : State) : (bookOrder e n s).1.now = s.now := by
  unfold bookOrder
  split
  · rfl
  · split
    · rfl
    · exact (State.firstState_step _ _).time_now

theorem extendOrder_now (e : List Byte) (n : Nat) (s : State) : (extendOrder e n s).1.now = s.now := by
  unfold extendOrder
  dsimp only
  repeat' split
  all_goals rfl

theorem releaseOrder_now (e : List Byte) (n : Nat) (s : State) : (releaseOrder e n s).1.now = s.now := by
  unfold releaseOrder
  dsimp only
  repeat' split
  case isFalse.isTrue => exact (s.closeBooking_step _ _ _).time_now
  all_goals rfl

theorem cancelOrder_now (e : List Byte) (n : Nat) (s : State) : (cancelOrder e n s).1.now = s.now := by
  unfold cancelOrder
  dsimp only
  repeat' split
  case h_1 | h_2 => exact (s.cancelBooking_step _ _).time_now
  all_goals rfl

theorem meterOrder_now (e : List Byte) (n : Nat) (s : State) : (meterOrder e n s).1.now = s.now :=
  congrArg State.now (meterOrder_same e n s)

theorem defineWindowOrder_now (e : List Byte) (n : Nat) (s : State) : (defineWindowOrder e n s).1.now = s.now := by
  unfold defineWindowOrder
  dsimp only
  repeat' split
  all_goals rfl

theorem State.halt_now (entry : List Byte) (index : Nat) (s : State) : (s.halt entry index).now = s.now :=
  (State.haltBookings_step _).time_now

/-! ### Posting and PASSIVE entry -/

theorem State.reportWritten_now (r : Report) (x : Posting) (okay : Bool) (s : State) :
    (s.reportWritten r x okay).now = s.now := by
  have drained : (s.writeAnswered r x okay).drainSettlements.now = s.now :=
    (State.drainSettlements_step _).time_now.trans (by cases okay <;> rfl)
  rw [State.reportWritten_eq]
  split
  · exact drained
  · exact drained

/-- PASSIVE entry stops house time where it stands (R48). -/
theorem State.passiveIfAnswered_now (s : State) : s.passiveIfAnswered.now = s.now := by
  unfold State.passiveIfAnswered
  split <;> rfl

/-! ### House ticks -/

theorem State.takeDue_now (s : State) : s.takeDue.now = s.now :=
  (s.takeSilences_step.trans s.takeDue_after.1).time_now.trans s.takeRate_now

/-- A tick holds house time at its maximum and raises it below (R49). -/
theorem State.le_tick_now {s : State} (max : s.now ≤ 2 ^ 40 - 1) : s.now ≤ s.tick.now := by
  rw [State.tick_eq]
  exact le_min max ((Nat.le_succ _).trans (congrArg Nat.succ s.takeDue_now).ge)

theorem State.le_edge_now {s : State} (max : s.now ≤ 2 ^ 40 - 1) : s.now ≤ s.edge.now := by
  unfold State.edge
  split
  · exact le_rfl
  · exact State.le_tick_now max

/-! ### The commands -/

theorem execMemoryPortIssue_now (s : State) : ∃ t, exec .memoryPortIssue s = .next t ∧ t.now = s.now := by
  refine ⟨_, rfl, ?_⟩
  split
  · rfl
  · exact s.issueForwarded_now
  · unfold State.issueOwn
    split <;> rfl

theorem execMemoryResponse_now (mtag : Nat) (resp : Resp) (s : State) :
    ∃ t, exec (.memoryResponse mtag resp) s = .next t ∧ t.now = s.now := by
  refine ⟨_, rfl, ?_⟩
  split
  · rfl
  · split <;> rfl

theorem execOwnTrafficPlace_now (s : State) : ∃ t, exec .ownTrafficPlace s = .next t ∧ t.now = s.now := by
  refine ⟨_, rfl, ?_⟩
  split
  · rfl
  · split <;> rfl

theorem execOrderTake_now (s : State) : ∃ t, exec .orderTake s = .next t ∧ t.now = s.now := by
  refine ⟨_, rfl, ?_⟩
  split <;> rfl

theorem execOrderFetchFault_now (mtag : Nat) (s : State) :
    ∃ t, exec (.orderFetchFault mtag) s = .next t ∧ t.now = s.now := by
  refine ⟨_, rfl, ?_⟩
  split <;> rfl

theorem execUnknownOrderKind_now (mtag : Nat) (entry : List Byte) (s : State) :
    ∃ t, exec (.unknownOrderKind mtag entry) s = .next t ∧ t.now = s.now := by
  refine ⟨_, rfl, ?_⟩
  split
  · rfl
  · split <;> rfl

theorem execHalt_now (mtag : Nat) (entry : List Byte) (s : State) :
    ∃ t, exec (.halt mtag entry) s = .next t ∧ t.now = s.now := by
  refine ⟨_, rfl, ?_⟩
  split
  · rfl
  · split
    · split
      · exact State.halt_now _ _ _
      · rfl
    · rfl

theorem execHaltCompletion_now (s : State) : ∃ t, exec .haltCompletion s = .next t ∧ t.now = s.now := by
  refine ⟨_, rfl, ?_⟩
  split
  · rfl
  · split <;> rfl

theorem execReportWriteBegin_now (s : State) : ∃ t, exec .reportWriteBegin s = .next t ∧ t.now = s.now := by
  refine ⟨_, rfl, ?_⟩
  split
  · split <;> rfl
  · rfl

theorem execReportWriteResponse_now (mtag : Nat) (okay : Bool) (s : State) :
    ∃ t, exec (.reportWriteResponse mtag okay) s = .next t ∧ t.now = s.now := by
  refine ⟨_, rfl, ?_⟩
  split
  · split
    · exact State.reportWritten_now _ _ _ _
    · rfl
  · rfl

theorem execHeadWordWriteResponse_now (mtag : Nat) (okay : Bool) (s : State) :
    ∃ t, exec (.headWordWriteResponse mtag okay) s = .next t ∧ t.now = s.now := by
  refine ⟨_, rfl, ?_⟩
  split
  · exact State.passiveIfAnswered_now _
  · rfl

theorem execStatusWordWriteResponse_now (mtag : Nat) (okay : Bool) (s : State) :
    ∃ t, exec (.statusWordWriteResponse mtag okay) s = .next t ∧ t.now = s.now := by
  refine ⟨_, rfl, ?_⟩
  split
  · exact State.passiveIfAnswered_now _
  · rfl
  · rfl

theorem execResetRelease_now (cpsel : Fin 16) (s : State) :
    ∃ t, exec (.resetRelease cpsel) s = .next t ∧ t.now = s.now := by
  refine ⟨_, rfl, ?_⟩
  split
  · exact State.acceptHeld_now _
  · rfl

theorem execStartWrite_now (value : Word32) (s : State) :
    ∃ t, exec (.startWrite value) s = .next t ∧ t.now = s.now := by
  refine ⟨_, rfl, ?_⟩
  split
  · rfl
  · exact s.handOff_now _ _ _

/-- The commands that set or raise house time: the two that count ticks, and the three of R50. -/
def movesHouseTime : Instr → Bool
  | .houseTick | .refclkEdge | .setTime _ _ | .resetAssert | .settingsLoadResponse _ _ => true
  | _ => false

/-- A command that does not move house time leaves it as it stands. -/
theorem exec_now {c : Instr} (stands : movesHouseTime c = false) (s : State) :
    ∃ t, exec c s = .next t ∧ t.now = s.now := by
  cases c with
  | houseTick | refclkEdge | setTime | resetAssert | settingsLoadResponse => cases stands
  | resetRelease cpsel => exact execResetRelease_now cpsel s
  | systemPortTransaction t => exact ⟨_, rfl, s.present_now t⟩
  | ingressWrite t => exact ⟨_, rfl, s.present_now t⟩
  | headerRead t => exact ⟨_, rfl, s.present_now t⟩
  | payloadRead t => exact ⟨_, rfl, s.present_now t⟩
  | memoryPortIssue => exact execMemoryPortIssue_now s
  | startWrite value => exact execStartWrite_now value s
  | orderTailWrite cls value => exact ⟨_, rfl, s.handOff_now _ _ _⟩
  | reportConsumerWrite cls value => exact ⟨_, rfl, s.handOff_now _ _ _⟩
  | memoryResponse mtag resp => exact execMemoryResponse_now mtag resp s
  | ownTrafficPlace => exact execOwnTrafficPlace_now s
  | orderTake => exact execOrderTake_now s
  | orderFetchFault mtag => exact execOrderFetchFault_now mtag s
  | defineSource mtag entry => exact ⟨_, rfl, State.runOrder_now (defineSourceOrder_now entry) _ _ _ s⟩
  | clear mtag entry => exact ⟨_, rfl, State.runOrder_now (clearOrder_now entry) _ _ _ s⟩
  | forceLeg mtag entry => exact ⟨_, rfl, State.runOrder_now (forceLegOrder_now entry) _ _ _ s⟩
  | tariff mtag entry => exact ⟨_, rfl, State.runOrder_now (tariffOrder_now entry) _ _ _ s⟩
  | book mtag entry => exact ⟨_, rfl, State.runOrder_now (bookOrder_now entry) _ _ _ s⟩
  | extend mtag entry => exact ⟨_, rfl, State.runOrder_now (extendOrder_now entry) _ _ _ s⟩
  | release mtag entry => exact ⟨_, rfl, State.runOrder_now (releaseOrder_now entry) _ _ _ s⟩
  | cancel mtag entry => exact ⟨_, rfl, State.runOrder_now (cancelOrder_now entry) _ _ _ s⟩
  | meter mtag entry => exact ⟨_, rfl, State.runOrder_now (meterOrder_now entry) _ _ _ s⟩
  | defineWindow mtag entry => exact ⟨_, rfl, State.runOrder_now (defineWindowOrder_now entry) _ _ _ s⟩
  | halt mtag entry => exact execHalt_now mtag entry s
  | settlementEntry => exact ⟨_, rfl, s.settlementEnter_step.time_now⟩
  | reportWriteBegin => exact execReportWriteBegin_now s
  | reportWriteResponse mtag okay => exact execReportWriteResponse_now mtag okay s
  | headWordWriteResponse mtag okay => exact execHeadWordWriteResponse_now mtag okay s
  | statusWordWriteResponse mtag okay => exact execStatusWordWriteResponse_now mtag okay s
  | haltCompletion => exact execHaltCompletion_now s
  | rateIntervalExpiry => exact ⟨_, rfl, s.takeRate_now⟩
  | silenceExpiry src => exact ⟨_, rfl, (s.takeSilence_step src).time_now⟩
  | waitToRestoreExpiry b => exact ⟨_, rfl, (s.takeRestore_step b).time_now⟩
  | prerollExpiry b => exact ⟨_, rfl, (s.takePreroll_step b).time_now⟩
  | lineCheckWaitExpiry b => exact ⟨_, rfl, (s.takeLineWait_step b).time_now⟩
  | startExpiry b => exact ⟨_, rfl, (s.takeStart_step b).time_now⟩
  | endExpiry b => exact ⟨_, rfl, (s.takeEnd_step b).time_now⟩
  | overrunCapExpiry b => exact ⟨_, rfl, (s.takeCap_step b).time_now⟩
  | unknownOrderKind mtag entry => exact execUnknownOrderKind_now mtag entry s

/-- A command that counts ticks, or that leaves house time, does not lower it. -/
theorem exec_le_now {c : Instr} (counts : movesHouseTime c = false ∨ c = .houseTick ∨ c = .refclkEdge) {s t : State}
    (max : s.now ≤ 2 ^ 40 - 1) (h : exec c s = .next t) : s.now ≤ t.now := by
  rcases counts with stands | rfl | rfl
  · obtain ⟨u, next, now⟩ := exec_now stands s
    cases next.symm.trans h
    exact now.ge
  · cases h
    split
    · exact State.le_tick_now max
    · exact le_rfl
  · cases h
    split
    · exact State.le_edge_now max
    · exact le_rfl

/-- Settles O8, by what every command does to house time. -/
theorem houseTimeNeverDecreases : Obligations.HouseTimeNeverDecreases := by
  intro c s t ⟨max, _⟩ h
  split
  · trivial
  · trivial
  · trivial
  · next notSet notReset notLoaded =>
    refine exec_le_now ?_ max h
    cases c with
    | houseTick => exact Or.inr (Or.inl rfl)
    | refclkEdge => exact Or.inr (Or.inr rfl)
    | setTime => exact (notSet _ _ rfl).elim
    | resetAssert => exact (notReset rfl).elim
    | settingsLoadResponse => exact (notLoaded _ _ rfl).elim
    | _ => exact Or.inl rfl

end Sys2Proof.Machine

namespace Sys2Proof.Machine

/-! ## A tick takes what is due (R47, R49, R51 to R53)

The expiries of the leg records and of the booking entries stand in six kinds, in the order in which a tick takes
them. The taking of one kind arms, beyond expiries ahead of house time, only a kind that is taken later; so when all
are taken none of them is due. -/

/-! ### The expiries of an entry -/

/-- The kinds of expiry of the leg records and the booking entries, in the order of a tick's takings (log 5). -/
inductive TableExpiry where
  | restore | preroll | lineWait | start | finish | cap

/-- An expiry of a booking and its leg record. -/
def TableExpiry.of (l : Option Leg) (b : Booking) : TableExpiry → Option Nat
  | .restore => l.bind Leg.wtrExp
  | .preroll => b.prerollExp
  | .lineWait => b.lineExp
  | .start => b.startExp
  | .finish => b.endExp
  | .cap => b.capExp

/-- The expiry of a kind at an entry. -/
def State.armed (s : State) (k : TableExpiry) (i : Fin 256) : Option Nat := k.of s.legs[i] s.bookings[i]

/-- The kind whose expiry the taking of this one may arm at a time already reached. -/
def TableExpiry.arms : TableExpiry → Option TableExpiry
  | .preroll => some .start
  | .start => some .finish
  | .finish => some .cap
  | .restore | .lineWait | .cap => none

/-- An armed expiry is one that the entry's state takes (Table 6-4). -/
structure Booking.ArmsOk (b : Booking) : Prop where
  preroll : b.prerollExp.isSome → b.state = .pending
  lineWait : b.lineExp.isSome → b.lineCheck = .waiting
  start : b.startExp.isSome → b.state = .preroll
  finish : b.endExp.isSome → b.state = .onAir
  cap : b.capExp.isSome → b.state = .overrun

/-- What the takings of a tick rest on and keep: armed expiries suit their states, and the settlement list holds
closed bookings alone. -/
structure State.TakingLaw (s : State) : Prop where
  entries : ∀ i : Fin 256, s.bookings[i].ArmsOk
  closed : ∀ i ∈ s.settlements, s.bookings[i].state.live = false

theorem State.takingLaw_of_laws {s : State} (settlement : s.settlementLaw) (expiry : s.expiryLaw) : s.TakingLaw where
  entries i := by
    obtain ⟨preroll, start, _, finish, _, cap, line, _⟩ := expiry i
    refine ⟨preroll.1, line.1, start.1, fun armed => ?_, fun armed => ?_⟩
    · by_contra other
      rw [finish other] at armed
      cases armed
    · by_contra other
      rw [cap other] at armed
      cases armed
  closed i listed := by
    rw [((settlement.2 i).1.1 listed)]
    rfl

/-! ### What a step does to the expiries -/

/-- `t` follows from `s` at the same house time, under the law of the takings, and with no expiry armed at a time
already reached but of the kind `a`. -/
structure ExpiryStep (a : Option TableExpiry) (s t : State) : Prop where
  now : t.now = s.now
  law : t.TakingLaw
  armed : ∀ (k : TableExpiry) (i : Fin 256) (e : Nat), t.armed k i = some e →
    s.now < e ∨ s.armed k i = some e ∨ a = some k

namespace ExpiryStep

variable {a : Option TableExpiry} {s t u : State}

theorem refl (law : s.TakingLaw) : ExpiryStep a s s := ⟨rfl, law, fun _ _ _ h => Or.inr (Or.inl h)⟩

/-- A step, and then another from the law the first has kept. -/
theorem andThen (h : ExpiryStep a s t) (next : t.TakingLaw → ExpiryStep a t u) : ExpiryStep a s u := by
  obtain ⟨now, law, armed⟩ := next h.law
  refine ⟨now.trans h.now, law, fun k i e stands => ?_⟩
  rcases armed k i e stands with ahead | stood | kind
  · exact Or.inl (h.now ▸ ahead)
  · exact h.armed k i e stood
  · exact Or.inr (Or.inr kind)

theorem foldl {α : Type} {f : State → α → State} (h : ∀ s x, s.TakingLaw → ExpiryStep a s (f s x)) (l : List α)
    {s : State} (law : s.TakingLaw) : ExpiryStep a s (l.foldl f s) := by
  induction l generalizing s with
  | nil => exact refl law
  | cons x l ih => exact (h s x law).andThen ih

/-- An expiry that is absent is armed ahead of house time, or is of the kind the step arms. -/
theorem ahead_of_none (h : ExpiryStep a s t) {k : TableExpiry} {i : Fin 256} (absent : s.armed k i = none)
    (other : a ≠ some k) {e : Nat} (armed : t.armed k i = some e) : s.now < e := by
  rcases h.armed k i e armed with ahead | stood | kind
  · exact ahead
  · cases absent.symm.trans stood
  · exact absurd kind other

/-- The records of one entry change. -/
theorem ofEntry (law : s.TakingLaw) {i : Fin 256} {l : Option Leg} {b : Booking} (now : t.now = s.now)
    (legs : t.legs = s.legs.set i l) (bookings : t.bookings = s.bookings.set i b)
    (listed : ∀ j ∈ t.settlements, i ≠ j → j ∈ s.settlements) (entry : b.ArmsOk)
    (closed : i ∈ t.settlements → b.state.live = false)
    (armed : ∀ (k : TableExpiry) (e : Nat), k.of l b = some e → s.now < e ∨ s.armed k i = some e ∨ a = some k) :
    ExpiryStep a s t := by
  have same : t.legs[i] = l ∧ t.bookings[i] = b := by simp [legs, bookings]
  have others : ∀ j : Fin 256, i ≠ j → t.legs[j] = s.legs[j] ∧ t.bookings[j] = s.bookings[j] := by
    intro j other
    have : i.val ≠ j.val := fun e => other (Fin.ext e)
    simp [legs, bookings, this]
  refine ⟨now, ⟨fun j => ?_, fun j mem => ?_⟩, fun k j e stands => ?_⟩
  · by_cases h : i = j
    · exact h ▸ same.2.symm ▸ entry
    · exact (others j h).2.symm ▸ law.entries j
  · by_cases h : i = j
    · subst h
      exact same.2.symm ▸ closed mem
    · exact (others j h).2.symm ▸ law.closed j (listed j mem h)
  · by_cases h : i = j
    · subst h
      rw [State.armed, same.1, same.2] at stands
      exact armed k e stands
    · rw [State.armed, (others j h).1, (others j h).2] at stands
      exact Or.inr (Or.inl stands)

/-- The legs, the bookings and the settlement list stand. -/
theorem ofSame (law : s.TakingLaw) (now : t.now = s.now) (legs : t.legs = s.legs) (bookings : t.bookings = s.bookings)
    (settlements : t.settlements = s.settlements) : ExpiryStep a s t := by
  refine ⟨now, ⟨?_, ?_⟩, fun k i e h => Or.inr (Or.inl ?_)⟩
  · rw [bookings]
    exact law.entries
  · rw [bookings, settlements]
    exact law.closed
  · rwa [State.armed, legs, bookings] at h

end ExpiryStep

/-! ### Updates of one record -/

section Updates

variable {a : Option TableExpiry} {s : State}

theorem State.modBooking_expiries (law : s.TakingLaw) {i : Fin 256} {f : Booking → Booking}
    (entry : s.bookings[i].ArmsOk → (f s.bookings[i]).ArmsOk)
    (live : (f s.bookings[i]).state.live = true → s.bookings[i].state.live = true)
    (armed : ∀ (k : TableExpiry) (e : Nat), k.of s.legs[i] (f s.bookings[i]) = some e →
      s.now < e ∨ s.armed k i = some e ∨ a = some k) :
    ExpiryStep a s (s.modBooking i f) :=
  .ofEntry law rfl (Vector.set_getElem_self i.isLt).symm rfl (fun _ mem _ => mem) (entry (law.entries i))
    (fun mem => Bool.eq_false_iff.2 fun h => Bool.eq_false_iff.1 (law.closed i mem) (live h)) armed

theorem State.modMeter_expiries (law : s.TakingLaw) (i : Fin 256) (f : Meter → Meter) :
    ExpiryStep a s (s.modMeter i f) :=
  State.modBooking_expiries law (fun entry => { entry with }) id
    fun k _ h => Or.inr (Or.inl (by cases k <;> exact h))

theorem State.putLeg_expiries (law : s.TakingLaw) {i : Fin 256} {l : Option Leg}
    (armed : ∀ e, l.bind Leg.wtrExp = some e → s.now < e ∨ s.armed .restore i = some e) :
    ExpiryStep a s (s.putLeg i l) := by
  refine .ofEntry law rfl rfl (Vector.set_getElem_self i.isLt).symm (fun _ mem _ => mem) (law.entries i)
    (law.closed i) fun k e h => ?_
  cases k
  case restore => exact (armed e h).imp_right Or.inl
  all_goals exact Or.inr (Or.inl h)

theorem State.offer_expiries (law : s.TakingLaw) (body : ReportBody) : ExpiryStep a s (s.offer body) :=
  .ofSame law rfl rfl rfl rfl

/-! ### Leg rules, judgements and line checks (R94, R95, R101, R113) -/

theorem State.switchLeg_expiries (law : s.TakingLaw) {i : Fin 256} {l : Leg}
    (armed : ∀ e, l.wtrExp = some e → s.now < e ∨ s.armed .restore i = some e) (before after : LegName)
    (cause : LegCause) : ExpiryStep a s (s.switchLeg i l before after cause) :=
  have put : ExpiryStep a s (s.putLeg i (some { l with active := some after })) := State.putLeg_expiries law armed
  (put.andThen (State.offer_expiries · _)).andThen (State.modMeter_expiries · _ _)

theorem State.armed_restore {i : Fin 256} {l : Leg} (record : s.legs[i] = some l) :
    s.armed .restore i = l.wtrExp := by
  simp only [State.armed, TableExpiry.of, record, Option.bind_some]

theorem State.autoRule_expiries (law : s.TakingLaw) (i : Fin 256) (cause : LegCause) :
    ExpiryStep a s (s.autoRule i cause) := by
  unfold State.autoRule
  split
  · exact .refl law
  · next l record =>
    split
    · dsimp only
      split
      · refine State.switchLeg_expiries law (fun e h => Or.inr ?_) _ _ _
        rw [State.armed_restore record]
        dsimp only at h
        split at h
        · cases h
        · exact h
      · exact .refl law
    · exact .refl law

/-- The revert rule arms its wait ahead of house time (R95). -/
theorem State.revertRule_expiries (law : s.TakingLaw) (i : Fin 256) (cause : LegCause) :
    ExpiryStep a s (s.revertRule i cause) := by
  unfold State.revertRule
  split
  · exact .refl law
  · next l record =>
    dsimp only
    repeat' split
    case h_1.isTrue.isTrue.isTrue.isTrue =>
      exact State.switchLeg_expiries law (fun e h => Or.inr ((State.armed_restore record).trans h)) _ _ _
    case h_1.isTrue.isTrue.isTrue.isFalse wait =>
      refine State.putLeg_expiries law fun e h => Or.inl ?_
      cases h
      omega
    case h_1.isTrue.isFalse => exact State.putLeg_expiries law nofun
    all_goals exact .refl law

theorem State.judge_expiries (law : s.TakingLaw) (i : Fin 256) : ExpiryStep a s (s.judge i) := by
  unfold State.judge
  dsimp only
  repeat' split
  case isTrue.isTrue.isTrue | isTrue.isFalse.isTrue => exact State.modMeter_expiries law _ _
  all_goals exact .refl law

theorem State.endLineCheck_expiries (law : s.TakingLaw) (i : Fin 256) (trigger : LineCheckTrigger) :
    ExpiryStep a s (s.endLineCheck i trigger) := by
  refine (State.modBooking_expiries law (fun entry => ?_) id fun k e h => ?_).andThen (State.offer_expiries · _)
  · exact { entry with lineWait := nofun }
  · cases k
    case lineWait => cases h
    all_goals exact Or.inr (Or.inl h)

theorem State.healthChanged_expiries (law : s.TakingLaw) (src : Fin 48) (before : HealthState) (cause : HealthCause) :
    ExpiryStep a s (s.healthChanged src before cause) := by
  have told : ∀ (s : State) (i : Fin 256), s.TakingLaw → ExpiryStep a s (s.lineCheckTold i) := by
    intro s i law
    unfold State.lineCheckTold
    split
    · exact State.endLineCheck_expiries law _ _
    · exact .refl law
  unfold State.healthChanged
  exact (((State.offer_expiries law _).andThen (.foldl told _)).andThen (.foldl (fun s i law =>
    (State.autoRule_expiries law i _).andThen (State.revertRule_expiries · i _)) _)).andThen
      (.foldl (fun s i law => State.judge_expiries law i) _)

/-! ### The close (R124, R125) -/

theorem State.settlementEnter_expiries (law : s.TakingLaw) : ExpiryStep a s s.settlementEnter := by
  unfold State.settlementEnter
  split
  · exact .refl law
  · next i rest list =>
    split
    · have closed : s.bookings[i].state.live = false := law.closed i (list ▸ List.mem_cons_self)
      have entry := law.entries i
      refine .ofEntry (b := s.bookings[i].freed) law rfl (Vector.set_getElem_self i.isLt).symm rfl
        (fun j mem _ => list ▸ List.mem_cons_of_mem i mem) ?_ (fun _ => rfl)
        fun k e h => Or.inr (Or.inl (by cases k <;> exact h))
      refine ⟨fun armed => ?_, entry.lineWait, fun armed => ?_, fun armed => ?_, fun armed => ?_⟩
      · exact absurd closed (by rw [entry.preroll armed]; decide)
      · exact absurd closed (by rw [entry.start armed]; decide)
      · exact absurd closed (by rw [entry.finish armed]; decide)
      · exact absurd closed (by rw [entry.cap armed]; decide)
    · exact .refl law

theorem State.settlementsEnter_expiries (n : Nat) (law : s.TakingLaw) : ExpiryStep a s (s.settlementsEnter n) := by
  induction n generalizing s with
  | zero => exact .refl law
  | succ n ih => exact (State.settlementEnter_expiries law).andThen ih

/-- Settlements that enter leave a live booking as it is. -/
theorem State.settlementsEnter_live (n : Nat) (law : s.TakingLaw) {i : Fin 256}
    (live : s.bookings[i].state.live = true) : (s.settlementsEnter n).bookings[i] = s.bookings[i] := by
  induction n generalizing s with
  | zero => rfl
  | succ n ih =>
    have enter : s.settlementEnter.bookings[i] = s.bookings[i] := by
      unfold State.settlementEnter
      split
      · rfl
      · next j rest list =>
        split
        · have other : j ≠ i := by
            rintro rfl
            exact Bool.eq_false_iff.1 (law.closed j (list ▸ List.mem_cons_self)) live
          exact State.modBooking_other other _ s
        · rfl
    exact (ih (State.settlementEnter_expiries (a := none) law).law (enter.symm ▸ live)).trans enter

/-- A close before the settlements enter (R124). -/
def State.closing (i : Fin 256) (r : EndReason) (w : Bool) (s : State) : State :=
  let b := s.bookings[i]
  { s with
    bookings := s.bookings.set i (b.closed i r w s.now)
    calendar := removeItems i s.calendar
    windows := if b.state.onAirOrOverrun then handWindows none false b.windows s.windows else s.windows
    useCounts := if b.state.holdsSources then lowerUse b.sources s.useCounts else s.useCounts
    legs := s.legs.set i none
    settlements := s.settlements ++ [i] }

theorem State.closeBooking_eq (i : Fin 256) (r : EndReason) (w : Bool) (s : State) :
    s.closeBooking i r w = (s.closing i r w).drainSettlements := rfl

theorem State.closing_armed (i : Fin 256) (r : EndReason) (w : Bool) (k : TableExpiry) :
    (s.closing i r w).armed k i = none := by
  cases k <;> simp [State.armed, State.closing, TableExpiry.of, Booking.closed]

theorem State.closing_expiries (law : s.TakingLaw) (i : Fin 256) (r : EndReason) (w : Bool) :
    ExpiryStep a s (s.closing i r w) := by
  refine .ofEntry (b := s.bookings[i].closed i r w s.now) law rfl rfl rfl (fun j mem other => ?_)
    ⟨nofun, nofun, nofun, nofun, nofun⟩ (fun _ => rfl) fun k e h => ?_
  · exact (List.mem_append.1 mem).resolve_right fun last => other (List.mem_singleton.1 last).symm
  · cases k <;> cases h

theorem State.closeBooking_expiries (law : s.TakingLaw) (i : Fin 256) (r : EndReason) (w : Bool) :
    ExpiryStep a s (s.closeBooking i r w) := by
  rw [State.closeBooking_eq]
  exact (State.closing_expiries law i r w).andThen (State.settlementsEnter_expiries _)

/-- A close leaves every other live booking as it is. -/
theorem State.closeBooking_live (law : s.TakingLaw) {i j : Fin 256} (other : i ≠ j) (r : EndReason) (w : Bool)
    (live : s.bookings[j].state.live = true) : (s.closeBooking i r w).bookings[j] = s.bookings[j] := by
  have kept : (s.closing i r w).bookings[j] = s.bookings[j] :=
    State.modBooking_other other (fun b => b.closed i r w s.now) s
  have law' := (State.closing_expiries (a := none) law i r w).law
  exact (State.settlementsEnter_live _ law' (kept.symm ▸ live)).trans kept

/-- A close leaves its booking no expiry that house time has reached. -/
theorem State.closeBooking_ahead (law : s.TakingLaw) (i : Fin 256) (r : EndReason) (w : Bool) {k : TableExpiry}
    {e : Nat} (armed : (s.closeBooking i r w).armed k i = some e) : s.now < e :=
  (State.settlementsEnter_expiries (a := none) _ (State.closing_expiries (a := none) law i r w).law).ahead_of_none
    (State.closing_armed i r w k) nofun armed

theorem State.noteCancel_expiries (law : s.TakingLaw) (i : Fin 256) :
    ExpiryStep a s (s.modBooking i fun b => { b with cancelTime := some s.now }) :=
  State.modBooking_expiries law (fun entry => { entry with }) id
    fun k _ h => Or.inr (Or.inl (by cases k <;> exact h))

/-! ### Pre-roll, start and overrun (R112 to R117) -/

/-- The line check arms its wait ahead of house time, when it waits at all (R113). -/
theorem State.beginLineCheck_expiries (law : s.TakingLaw) (i : Fin 256) : ExpiryStep a s (s.beginLineCheck i) := by
  unfold State.beginLineCheck
  split
  · exact State.endLineCheck_expiries law _ _
  · next waits =>
    have wait : s.ctl.settings.lineWait ≠ 0 := fun zero => waits (by simp [zero])
    refine State.modBooking_expiries law (fun entry => { entry with lineWait := fun _ => rfl }) id fun k e h => ?_
    cases k
    case lineWait =>
      cases h
      exact Or.inl (by omega)
    all_goals exact Or.inr (Or.inl h)

/-- PREROLL entry before its line check begins (R112). -/
def State.prerolled (i : Fin 256) (s : State) : State :=
  (s.claim i).modBooking i fun b => { b with state := .preroll, prerollExp := none, startExp := some b.startS }

theorem State.claim_expiries (law : s.TakingLaw) (i : Fin 256) : ExpiryStep a s (s.claim i) := by
  by_cases mode : s.bookings[i].mode = .switch
  · have legs : (s.claim i).legs = s.legs.set i (some { active := none, forced := .auto, wtrExp := none }) :=
      if_pos mode
    refine .ofEntry law rfl legs (Vector.set_getElem_self i.isLt).symm (fun _ mem _ => mem) (law.entries i)
      (law.closed i) fun k e h => ?_
    cases k
    case restore => cases h
    all_goals exact Or.inr (Or.inl h)
  · exact .ofSame law rfl (if_neg mode) rfl rfl

theorem State.prerolled_expiries (law : s.TakingLaw) {i : Fin 256} (pending : s.bookings[i].state = .pending) :
    ExpiryStep (some .start) s (s.prerolled i) := by
  refine (State.claim_expiries law i).andThen fun law => State.modBooking_expiries law (fun entry => ?_) (fun _ => ?_)
    fun k e h => ?_
  · exact ⟨nofun, entry.lineWait, fun _ => rfl, fun armed => (nomatch pending.symm.trans (entry.finish armed)),
      fun armed => (nomatch pending.symm.trans (entry.cap armed))⟩
  · exact congrArg BookingState.live pending
  · cases k
    case start => exact Or.inr (Or.inr rfl)
    case preroll => cases h
    all_goals exact Or.inr (Or.inl h)

theorem State.enterPreroll_expiries (law : s.TakingLaw) {i : Fin 256} (pending : s.bookings[i].state = .pending) :
    ExpiryStep (some .start) s (s.enterPreroll i) :=
  (State.prerolled_expiries law pending).andThen (State.beginLineCheck_expiries · i)

theorem State.enterPreroll_ahead (law : s.TakingLaw) {i : Fin 256} (pending : s.bookings[i].state = .pending) {e : Nat}
    (armed : (s.enterPreroll i).armed .preroll i = some e) : s.now < e := by
  have absent : (s.prerolled i).armed .preroll i = none :=
    congrArg Booking.prerollExp (State.modBooking_same i _ (s.claim i))
  exact (State.beginLineCheck_expiries (a := none) (State.prerolled_expiries law pending).law i).ahead_of_none
    absent nofun armed

/-- The closes before a start leave the booking that starts as it is (R115). -/
theorem State.clearWindows_expiries (law : s.TakingLaw) {i : Fin 256} (live : s.bookings[i].state.live = true) :
    ExpiryStep a s (s.clearWindows i) ∧ (s.clearWindows i).bookings[i] = s.bookings[i] := by
  have fold : ∀ (l : List (Fin 256)) (s : State), s.TakingLaw → s.bookings[i].state.live = true →
      (∀ j ∈ l, j ≠ i) →
        (l.foldl (fun s j => s.closeBooking j (yieldReason s.bookings[j]) false) s).bookings[i] = s.bookings[i] := by
    intro l
    induction l with
    | nil => exact fun _ _ _ _ => rfl
    | cons j l ih =>
      intro s law live others
      have kept := State.closeBooking_live law (others j List.mem_cons_self) (yieldReason s.bookings[j]) false live
      exact (ih _ (State.closeBooking_expiries (a := none) law _ _ _).law (kept.symm ▸ live)
        fun x mem => others x (List.mem_cons_of_mem j mem)).trans kept
  refine ⟨.foldl (fun s j law => State.closeBooking_expiries law j _ _) _ law, fold _ s law live fun j mem => ?_⟩
  have both := (List.mem_filter.1 mem).2
  rw [Bool.and_eq_true, bne_iff_ne] at both
  exact both.1

/-- A booking goes on air from PREROLL, with its start expiry absent (R116 steps 1 to 3). -/
theorem State.onAir_expiries (law : s.TakingLaw) {i : Fin 256} (preroll : s.bookings[i].state = .preroll)
    (start : Option Nat) : ExpiryStep a s
      (s.modBooking i fun b => { b with state := .onAir, actStart := start, startExp := none }) := by
  refine State.modBooking_expiries law (fun entry => ?_) (fun _ => congrArg BookingState.live preroll) fun k e h => ?_
  · exact ⟨fun armed => (nomatch preroll.symm.trans (entry.preroll armed)), entry.lineWait, nofun, fun _ => rfl,
      fun armed => (nomatch preroll.symm.trans (entry.cap armed))⟩
  · cases k
    case start => cases h
    all_goals exact Or.inr (Or.inl h)

theorem State.setInitialLeg_expiries (law : s.TakingLaw) (i : Fin 256) : ExpiryStep a s (s.setInitialLeg i) := by
  unfold State.setInitialLeg
  split
  · exact State.putLeg_expiries law nofun
  · exact .refl law

/-- The end expiry is armed on air (R116 step 8). -/
theorem State.armEnd_expiries (law : s.TakingLaw) {i : Fin 256} (onAir : s.bookings[i].state = .onAir) :
    ExpiryStep (some .finish) s (s.modBooking i fun b => { b with endExp := some b.endE }) := by
  refine State.modBooking_expiries law (fun entry => { entry with finish := fun _ => onAir }) id fun k e h => ?_
  cases k
  case finish => exact Or.inr (Or.inr rfl)
  all_goals exact Or.inr (Or.inl h)

/-- ON_AIR entry from PREROLL arms the end expiry and leaves the start expiry absent (R116). -/
theorem State.enterOnAir_expiries (law : s.TakingLaw) {i : Fin 256} (preroll : s.bookings[i].state = .preroll)
    (n : Nat) : ExpiryStep (some .finish) s (s.enterOnAir i false n) ∧
      ∀ e, (s.enterOnAir i false n).armed .start i = some e → s.now < e := by
  unfold State.enterOnAir
  extract_lets s1 s2 s3 s4 s5 s6 s7
  have checked : ExpiryStep (some .finish) s s2 ∧ QuietStep s s2 := by
    have claimed : s1 = s := rfl
    unfold s2
    rw [claimed]
    split
    · exact ⟨.refl law, .refl s⟩
    · exact ⟨State.endLineCheck_expiries law _ _, State.endLineCheck_quiet _ _ _⟩
  have waited : s2.bookings[i].state = .preroll :=
    (congrArg Booking.state (checked.2.bookings i)).trans preroll
  have aired : ExpiryStep (some .finish) s s3 := checked.1.andThen (State.onAir_expiries · waited _)
  have told : ExpiryStep (some .finish) s3 s7 :=
    (((ExpiryStep.ofSame aired.law rfl rfl rfl rfl : ExpiryStep _ s3 s4).andThen
      (State.setInitialLeg_expiries · i)).andThen (State.judge_expiries · i)).andThen (State.offer_expiries · _)
  have quiet : QuietStep s4 s7 :=
    ((State.setInitialLeg_quiet _ _).trans (State.judge_quiet _ _)).trans (State.offer_quiet _ _)
  have entered : s3.bookings[i].state = .onAir := congrArg Booking.state (State.modBooking_same i _ s2)
  have onAir : s7.bookings[i].state = .onAir :=
    (congrArg Booking.state (quiet.bookings i)).trans entered
  have rest := told.andThen (State.armEnd_expiries · onAir)
  have absent : s3.armed .start i = none := congrArg Booking.startExp (State.modBooking_same i _ s2)
  exact ⟨aired.andThen fun _ => rest, fun e armed => aired.now ▸ rest.ahead_of_none absent nofun armed⟩

theorem State.startBooking_expiries (law : s.TakingLaw) {i : Fin 256} (preroll : s.bookings[i].state = .preroll) :
    ExpiryStep (some .finish) s (s.startBooking i false) ∧
      ∀ e, (s.startBooking i false).armed .start i = some e → s.now < e := by
  obtain ⟨cleared, kept⟩ := State.clearWindows_expiries (a := some .finish) law (i := i)
    (congrArg BookingState.live preroll)
  obtain ⟨aired, start⟩ := State.enterOnAir_expiries cleared.law ((congrArg Booking.state kept).trans preroll)
    (s.holdersFor i).length
  exact ⟨cleared.andThen fun _ => aired, fun e armed => cleared.now ▸ start e armed⟩

theorem State.enterOverrun_expiries (law : s.TakingLaw) {i : Fin 256} (onAir : s.bookings[i].state = .onAir) :
    ExpiryStep (some .cap) s (s.enterOverrun i) := by
  refine (State.modBooking_expiries law (fun entry => ?_) (fun _ => congrArg BookingState.live onAir)
    fun k e h => ?_).andThen (State.offer_expiries · _)
  · exact ⟨fun armed => (nomatch onAir.symm.trans (entry.preroll armed)), entry.lineWait,
      fun armed => (nomatch onAir.symm.trans (entry.start armed)), nofun, fun _ => rfl⟩
  · cases k
    case cap => exact Or.inr (Or.inr rfl)
    case finish => cases h
    all_goals exact Or.inr (Or.inl h)

end Updates

/-! ### The taking of one expiry (Table 3-2) -/

/-- `t` follows from `s` with the expiry of the kind at an entry taken: it is absent or ahead of house time. -/
structure TableExpiry.Taken (k : TableExpiry) (i : Fin 256) (s t : State) : Prop extends ExpiryStep k.arms s t where
  ahead : ∀ e, t.armed k i = some e → s.now < e

/-- The taking of a kind's expiry at an entry, if it is due. -/
def TableExpiry.take : TableExpiry → Fin 256 → State → State
  | .restore => State.takeRestore
  | .preroll => State.takePreroll
  | .lineWait => State.takeLineWait
  | .start => State.takeStart
  | .finish => State.takeEnd
  | .cap => State.takeCap

theorem isSome_of_due {now : Nat} {x : Option Nat} (due : dueAt now x = true) : x.isSome = true := by
  cases x with
  | none => cases due
  | some _ => rfl

section Takings

variable {s : State} {i : Fin 256}

theorem TableExpiry.taken_of_idle {k : TableExpiry} (law : s.TakingLaw) (idle : ¬dueAt s.now (s.armed k i) = true) :
    k.Taken i s s :=
  ⟨.refl law, fun _ => lt_of_not_due (Bool.eq_false_iff.2 idle)⟩

theorem TableExpiry.taken_of_absent {k : TableExpiry} {t : State} (step : ExpiryStep k.arms s t)
    (absent : t.armed k i = none) : k.Taken i s t :=
  ⟨step, fun _ armed => by cases absent.symm.trans armed⟩

theorem State.endLineCheck_armed (i : Fin 256) (trigger : LineCheckTrigger) (s : State) :
    (s.endLineCheck i trigger).armed .lineWait i = none :=
  congrArg Booking.lineExp
    (State.modBooking_same i (fun b => { b with lineCheck := .done, lineExp := none }) s)

theorem State.enterOverrun_armed (i : Fin 256) (s : State) : (s.enterOverrun i).armed .finish i = none :=
  congrArg Booking.endExp (State.modBooking_same i
    (fun b => { b with
      state := .overrun, endExp := none, capExp := some (s.bookings[i].endE + s.bookings[i].maxOver) }) s)

theorem State.restoreLeg_taken (law : s.TakingLaw) (i : Fin 256) (l : Leg) :
    TableExpiry.restore.Taken i s (s.restoreLeg i l) := by
  unfold State.restoreLeg
  dsimp only
  split
  · exact TableExpiry.taken_of_absent (State.switchLeg_expiries law (fun _ armed => by cases armed) _ _ _)
      (congrArg (Option.bind · Leg.wtrExp) (State.putLeg_same i _ s))
  · exact TableExpiry.taken_of_absent (State.putLeg_expiries law nofun)
      (congrArg (Option.bind · Leg.wtrExp) (State.putLeg_same i _ s))

theorem State.takeRestore_taken (law : s.TakingLaw) (i : Fin 256) :
    TableExpiry.restore.Taken i s (s.takeRestore i) := by
  unfold State.takeRestore
  split
  · next absent => exact TableExpiry.taken_of_absent (.refl law) (congrArg (Option.bind · Leg.wtrExp) absent)
  · next l record =>
    split
    · exact State.restoreLeg_taken law i l
    · next idle => exact TableExpiry.taken_of_idle law (State.armed_restore record ▸ idle)

theorem State.takePreroll_taken (law : s.TakingLaw) (i : Fin 256) :
    TableExpiry.preroll.Taken i s (s.takePreroll i) := by
  unfold State.takePreroll
  split
  · next due =>
    split
    · have noted := State.noteCancel_expiries (a := some .start) law i
      exact ⟨noted.andThen (State.closeBooking_expiries · i _ _),
        fun e armed => noted.now ▸ State.closeBooking_ahead noted.law i _ _ armed⟩
    · exact ⟨State.enterPreroll_expiries law due.1, fun _ => State.enterPreroll_ahead law due.1⟩
  · next idle =>
    exact TableExpiry.taken_of_idle law fun due => idle ⟨(law.entries i).preroll (isSome_of_due due), due⟩

theorem State.takeLineWait_taken (law : s.TakingLaw) (i : Fin 256) :
    TableExpiry.lineWait.Taken i s (s.takeLineWait i) := by
  unfold State.takeLineWait
  split
  · exact TableExpiry.taken_of_absent (State.endLineCheck_expiries law i _) (s.endLineCheck_armed i _)
  · next idle =>
    exact TableExpiry.taken_of_idle law fun due => idle ⟨(law.entries i).lineWait (isSome_of_due due), due⟩

theorem State.takeStart_taken (law : s.TakingLaw) (i : Fin 256) : TableExpiry.start.Taken i s (s.takeStart i) := by
  unfold State.takeStart
  split
  · next due =>
    obtain ⟨step, ahead⟩ := State.startBooking_expiries law due.1
    exact ⟨step, ahead⟩
  · next idle =>
    exact TableExpiry.taken_of_idle law fun due => idle ⟨(law.entries i).start (isSome_of_due due), due⟩

theorem State.takeEnd_taken (law : s.TakingLaw) (i : Fin 256) : TableExpiry.finish.Taken i s (s.takeEnd i) := by
  unfold State.takeEnd
  split
  · next due =>
    split
    · exact TableExpiry.taken_of_absent (State.enterOverrun_expiries law due.1) (s.enterOverrun_armed i)
    · exact ⟨State.closeBooking_expiries law i _ _, fun _ => State.closeBooking_ahead law i _ _⟩
  · next idle =>
    exact TableExpiry.taken_of_idle law fun due => idle ⟨(law.entries i).finish (isSome_of_due due), due⟩

theorem State.takeCap_taken (law : s.TakingLaw) (i : Fin 256) : TableExpiry.cap.Taken i s (s.takeCap i) := by
  unfold State.takeCap
  split
  · exact ⟨State.closeBooking_expiries law i _ _, fun _ => State.closeBooking_ahead law i _ _⟩
  · next idle =>
    exact TableExpiry.taken_of_idle law fun due => idle ⟨(law.entries i).cap (isSome_of_due due), due⟩

theorem TableExpiry.take_taken (k : TableExpiry) (law : s.TakingLaw) (i : Fin 256) : k.Taken i s (k.take i s) := by
  cases k with
  | restore => exact State.takeRestore_taken law i
  | preroll => exact State.takePreroll_taken law i
  | lineWait => exact State.takeLineWait_taken law i
  | start => exact State.takeStart_taken law i
  | finish => exact State.takeEnd_taken law i
  | cap => exact State.takeCap_taken law i

end Takings

/-! ### The takings of one kind -/

/-- The entries at which an expiry of the kind is due, in ascending order (R51). -/
def TableExpiry.due (k : TableExpiry) (s : State) : List (Fin 256) :=
  (List.finRange 256).filter fun i => dueAt s.now (s.armed k i)

/-- Every due expiry of the kind is taken. -/
def TableExpiry.takeAll (k : TableExpiry) (s : State) : State := (k.due s).foldl (fun s i => k.take i s) s

/-- Every expiry of the kind lies ahead of house time. -/
def State.aheadOf (s : State) (k : TableExpiry) : Prop :=
  ∀ (i : Fin 256) (e : Nat), s.armed k i = some e → s.now < e

theorem TableExpiry.arms_ne (k : TableExpiry) : k.arms ≠ some k := by
  cases k <;> nofun

theorem ExpiryStep.aheadOf {a : Option TableExpiry} {s t : State} (h : ExpiryStep a s t) {k : TableExpiry}
    (other : a ≠ some k) (ahead : s.aheadOf k) : t.aheadOf k := by
  intro i e armed
  rw [h.now]
  rcases h.armed k i e armed with later | stood | kind
  · exact later
  · exact ahead i e stood
  · exact absurd kind other

theorem TableExpiry.takeAll_step (k : TableExpiry) {s : State} (law : s.TakingLaw) :
    ExpiryStep k.arms s (k.takeAll s) :=
  .foldl (fun _ i law => (k.take_taken law i).toExpiryStep) _ law

/-- Expiries due at the entries of a list are none when each has been taken. -/
theorem TableExpiry.foldl_take_aheadOf (k : TableExpiry) (l : List (Fin 256)) {s : State} (law : s.TakingLaw)
    (others : ∀ (i : Fin 256) (e : Nat), s.armed k i = some e → s.now < e ∨ i ∈ l) :
    (l.foldl (fun s i => k.take i s) s).aheadOf k := by
  induction l generalizing s with
  | nil => exact fun i e armed => (others i e armed).resolve_right List.not_mem_nil
  | cons j l ih =>
    have taken := k.take_taken law j
    refine ih taken.law fun i e armed => ?_
    rw [taken.now]
    rcases taken.armed k i e armed with ahead | stood | kind
    · exact Or.inl ahead
    · rcases others i e stood with ahead | mem
      · exact Or.inl ahead
      · rcases List.mem_cons.1 mem with rfl | later
        · exact Or.inl (taken.ahead e armed)
        · exact Or.inr later
    · exact absurd kind k.arms_ne

theorem TableExpiry.takeAll_aheadOf (k : TableExpiry) {s : State} (law : s.TakingLaw) : (k.takeAll s).aheadOf k := by
  refine k.foldl_take_aheadOf _ law fun i e armed => ?_
  cases due : dueAt s.now (s.armed k i) with
  | false => exact Or.inl (lt_of_not_due due armed)
  | true => exact Or.inr (List.mem_filter.2 ⟨List.mem_finRange i, due⟩)

/-! ### All kinds in order -/

/-- The kinds of a list are taken one after another. -/
def TableExpiry.takeKinds (l : List TableExpiry) (s : State) : State := l.foldl (fun s k => k.takeAll s) s

/-- The kinds in the order of a tick (log 5). -/
def TableExpiry.inOrder : List TableExpiry := [.restore, .preroll, .lineWait, .start, .finish, .cap]

/-- No kind arms one that is taken before it. -/
theorem TableExpiry.inOrder_arms : TableExpiry.inOrder.Pairwise fun k j => j.arms ≠ some k := by
  simp [TableExpiry.inOrder, TableExpiry.arms]

theorem TableExpiry.mem_inOrder (k : TableExpiry) : k ∈ TableExpiry.inOrder := by
  cases k <;> simp [TableExpiry.inOrder]

theorem TableExpiry.takeKinds_keeps {k : TableExpiry} (l : List TableExpiry) (others : ∀ j ∈ l, j.arms ≠ some k)
    {s : State} (law : s.TakingLaw) (ahead : s.aheadOf k) : (TableExpiry.takeKinds l s).aheadOf k := by
  induction l generalizing s with
  | nil => exact ahead
  | cons j l ih =>
    have step := j.takeAll_step law
    exact ih (fun x mem => others x (List.mem_cons_of_mem j mem)) step.law
      (step.aheadOf (others j List.mem_cons_self) ahead)

theorem TableExpiry.takeKinds_aheadOf (l : List TableExpiry) (order : l.Pairwise fun k j => j.arms ≠ some k)
    {s : State} (law : s.TakingLaw) {k : TableExpiry} (mem : k ∈ l) : (TableExpiry.takeKinds l s).aheadOf k := by
  induction l generalizing s with
  | nil => cases mem
  | cons j l ih =>
    obtain ⟨first, rest⟩ := List.pairwise_cons.1 order
    have law' := (j.takeAll_step law).law
    rcases List.mem_cons.1 mem with rfl | later
    · exact TableExpiry.takeKinds_keeps l first law' (k.takeAll_aheadOf law)
    · exact ih rest law' later

theorem State.restoresDue_eq (s : State) : s.restoresDue = TableExpiry.restore.due s := by
  refine List.filter_congr fun i _ => ?_
  cases record : s.legs[i] with
  | none => simp only [State.armed, TableExpiry.of, record, Option.bind_none, dueAt]
  | some l => simp only [State.armed_restore record]

/-- A tick takes the rate interval and the silences, and then the kinds of the tables in order. -/
theorem State.takeDue_eq (s : State) : s.takeDue = TableExpiry.takeKinds TableExpiry.inOrder s.takeSilences := by
  have restore : ∀ t : State, TableExpiry.restore.takeAll t = t.restoresDue.foldl (fun s i => s.takeRestore i) t := by
    intro t
    rw [State.restoresDue_eq]
    rfl
  simp only [TableExpiry.takeKinds, TableExpiry.inOrder, List.foldl_cons, List.foldl_nil, restore]
  rfl

/-! ### The law before the tables are taken -/

theorem State.takeRate_expiries {s : State} (law : s.TakingLaw) : ExpiryStep none s s.takeRate := by
  rcases s.takeRate_cases with ⟨_, same⟩ | ⟨t, _, _, taken⟩
  · rw [same]
    exact .refl law
  · rw [taken, State.closeInterval, State.offerRates_eq]
    exact .ofSame law rfl rfl rfl rfl

theorem State.takeSilence_expiries {s : State} (law : s.TakingLaw) (i : Fin 48) :
    ExpiryStep none s (s.takeSilence i) := by
  have put : ∀ h, ExpiryStep none s (s.putHealth i h) := fun h => .ofSame law rfl rfl rfl rfl
  unfold State.takeSilence State.setHealth
  dsimp only
  repeat' split
  case isTrue.isTrue => exact put _
  case isTrue.isFalse => exact (put _).andThen (State.healthChanged_expiries · _ _ _)
  case isFalse => exact .refl law

theorem State.takeSilences_law {s : State} (law : s.TakingLaw) : s.takeSilences.TakingLaw :=
  ((State.takeRate_expiries law).andThen (.foldl (fun _ i law => State.takeSilence_expiries law i) _)).law

/-- When a tick has taken what is due, every expiry of the tables lies ahead of house time. -/
theorem State.takeDue_aheadOf {s : State} (law : s.TakingLaw) (k : TableExpiry) : s.takeDue.aheadOf k := by
  rw [State.takeDue_eq]
  exact TableExpiry.takeKinds_aheadOf _ TableExpiry.inOrder_arms (State.takeSilences_law law) k.mem_inOrder

/-! ### The tick -/

theorem State.count_noneBehind {s : State} (rate : ∀ e, s.time.rateExpiry = some e → s.now + 1 ≤ e)
    (silences : s.silencesFrom (s.now + 1)) (tables : ∀ k, s.aheadOf k) : (s.modTime TimeBase.tick).noneBehind := by
  have counted : (s.modTime TimeBase.tick).time.house ≤ s.now + 1 := Nat.min_le_right _ _
  have ahead : ∀ (k : TableExpiry) (i : Fin 256) (e : Nat), s.armed k i = some e →
      (s.modTime TimeBase.tick).time.house ≤ e := fun k i e armed => counted.trans (tables k i e armed)
  refine ⟨fun e armed => counted.trans (rate e armed), fun i e armed => counted.trans ((silences i).2 e armed),
    fun i l e record armed => ahead .restore i e ((State.armed_restore record).trans armed), fun i e armed => ?_⟩
  rcases armed with preroll | start | finish | cap | line
  · exact ahead .preroll i e preroll
  · exact ahead .start i e start
  · exact ahead .finish i e finish
  · exact ahead .cap i e cap
  · exact ahead .lineWait i e line

theorem State.tick_noneBehind {s : State} (law : s.TakingLaw) (positive : 1 ≤ s.time.rateInterval)
    (ahead : s.aheadLaw) : s.tick.noneBehind := by
  obtain ⟨rate, silences⟩ := State.takeDue_ahead positive ahead
  rw [← s.takeDue_now] at rate silences
  rw [State.tick_eq]
  exact State.count_noneBehind rate silences (State.takeDue_aheadOf law)

/-- The count of a tick, spelt as R49 does. -/
theorem TimeBase.tick_of_le {t : TimeBase} (max : t.house ≤ 2 ^ 40 - 1) :
    t.tick = { t with
      prescaler := 0, house := if t.house = 2 ^ 40 - 1 then 2 ^ 40 - 1 else t.house + 1 } := by
  have house : min (2 ^ 40 - 1) (t.house + 1) = if t.house = 2 ^ 40 - 1 then 2 ^ 40 - 1 else t.house + 1 := by
    split <;> omega
  rw [← house]
  rfl

/-! ### The takings as commands -/

/-- `t` is reached from `s` by commands that take expiries. -/
def State.takings (s t : State) : Prop :=
  ∃ cs : List Instr, (∀ c ∈ cs, takesExpiry c = true) ∧ execAll cs s = .next t

theorem execAll_append {cs ds : List Instr} {s t : State} (h : execAll cs s = .next t) :
    execAll (cs ++ ds) s = execAll ds t := by
  induction cs generalizing s with
  | nil => cases h; rfl
  | cons c cs ih =>
    rw [execAll] at h
    rw [List.cons_append, execAll]
    split at h
    · exact ih h
    · cases h
    · cases h

theorem State.takings.andTake {s t u : State} (h : s.takings t) (c : Instr) (takes : takesExpiry c = true)
    (run : exec c t = .next u) : s.takings u := by
  obtain ⟨cs, all, reached⟩ := h
  refine ⟨cs ++ [c], fun x mem => ?_, ?_⟩
  · rcases List.mem_append.1 mem with before | last
    · exact all x before
    · exact List.mem_singleton.1 last ▸ takes
  · rw [execAll_append reached, execAll, run]
    rfl

/-- What a tick takes, the commands of the expiries take (R51, R53). -/
theorem State.takeDue_takings (s : State) : s.takings s.takeDue :=
  State.takeDue_induct (P := s.takings) (fun _ h => h.andTake .rateIntervalExpiry rfl rfl)
    (fun _ i h => h.andTake (.silenceExpiry i) rfl rfl) (fun _ i h => h.andTake (.waitToRestoreExpiry i) rfl rfl)
    (fun _ i h => h.andTake (.prerollExpiry i) rfl rfl) (fun _ i h => h.andTake (.lineCheckWaitExpiry i) rfl rfl)
    (fun _ i h => h.andTake (.startExpiry i) rfl rfl) (fun _ i h => h.andTake (.endExpiry i) rfl rfl)
    (fun _ i h => h.andTake (.overrunCapExpiry i) rfl rfl) s ⟨[], nofun, rfl⟩

/-! ### The commands of the time base -/

theorem execHouseTick_of_running {s : State} (running : s.time.running = true) : exec .houseTick s = .next s.tick :=
  congrArg Host.Outcome.next (if_pos running)

theorem execRefclkEdge_of_running {s : State} (running : s.time.running = true) : exec .refclkEdge s = .next s.edge :=
  congrArg Host.Outcome.next (if_pos running)

theorem exec_of_not_running {s : State} (stands : s.time.running = false) :
    exec .houseTick s = .next s ∧ exec .refclkEdge s = .next s := by
  have stopped : ¬s.time.running = true := Bool.eq_false_iff.1 stands
  exact ⟨congrArg Host.Outcome.next (if_neg stopped), congrArg Host.Outcome.next (if_neg stopped)⟩

theorem dueAt_eq_false_iff (now : Nat) (x : Option Nat) : dueAt now x = false ↔ ∀ e, x = some e → now < e := by
  cases x <;> simp [dueAt]

theorem Booking.anyDue_eq_false_iff (now : Nat) (b : Booking) :
    b.anyDue now = false ↔ ∀ e, (b.prerollExp = some e ∨ b.startExp = some e ∨ b.endExp = some e ∨
      b.capExp = some e ∨ b.lineExp = some e) → now < e := by
  simp only [Booking.anyDue, Bool.or_eq_false_iff, dueAt_eq_false_iff, or_imp, forall_and, and_assoc]

/-- Settles O6: the count and the takings of a tick, what `anyDue` reads, and that a tick leaves nothing behind. -/
theorem houseTimeAdvancesAtTicks : Obligations.HouseTimeAdvancesAtTicks := by
  refine ⟨fun s max => ?_, fun s => ?_, fun s running time ahead _ settlement _ expiry => ?_⟩
  · intro raised
    have counts : ∀ v : State, v.time.house = s.time.house → v.modTime TimeBase.tick = raised v := by
      intro v same
      rw [State.modTime, TimeBase.tick_of_le (same ▸ max), same]
    have ticks : s.time.running = true → exec .houseTick s = .next (raised s.takeDue) := fun running => by
      rw [execHouseTick_of_running running, State.tick_eq, counts _ s.takeDue_now]
    refine ⟨fun running idle => ?_, fun running => ?_, fun running below => ?_, fun running last => ?_,
      exec_of_not_running⟩
    · rw [ticks running, State.takeDue_of_not_due idle]
    · obtain ⟨cs, takes, reached⟩ := s.takeDue_takings
      obtain ⟨e, step⟩ := s.takeDue_spec
      refine ⟨cs, s.takeDue, takes, reached, ticks running, ?_, step.port, step.path, step.ctl, step.pending⟩
      rw [step.time]
      rfl
    · rw [execRefclkEdge_of_running running, State.edge, if_pos below]
      rfl
    · rw [execRefclkEdge_of_running running, execHouseTick_of_running running, State.edge, if_neg last.not_lt]
  · rw [s.anyDue_false_iff]
    simp only [dueAt_eq_false_iff, Booking.anyDue_eq_false_iff]
    refine and_congr Iff.rfl (and_congr Iff.rfl (and_congr ?_ Iff.rfl))
    exact ⟨fun h i l e record => h i l record e, fun h i l record e => h i l e record⟩
  · obtain ⟨_, _, _, _, positive, _⟩ := time
    exact ⟨s.tick, execHouseTick_of_running running,
      State.tick_noneBehind (State.takingLaw_of_laws settlement expiry) positive ahead⟩

end Sys2Proof.Machine

namespace Sys2Proof.Machine

/-! ## What every step keeps of the sources (R58 to R91)

The source records and health records change at few places. A property of them and of the settings that holds of
wholly reset records and is kept at each of those places is kept by every step. -/

/-- `t` has the source records, the health records and the settings of `s`. -/
structure RecordFrame (s t : State) : Prop extends SourceFrame s t where
  settings : t.ctl.settings = s.ctl.settings

namespace RecordFrame

theorem refl (s : State) : RecordFrame s s := ⟨.refl s, rfl⟩

theorem trans {s t u : State} (a : RecordFrame s t) (b : RecordFrame t u) : RecordFrame s u :=
  ⟨a.toSourceFrame.trans b.toSourceFrame, b.settings.trans a.settings⟩

theorem foldl {α : Type} (f : State → α → State) (h : ∀ s a, RecordFrame s (f s a)) (l : List α) (s : State) :
    RecordFrame s (l.foldl f s) := by
  induction l generalizing s with
  | nil => exact refl s
  | cons a l ih => exact (h s a).trans (ih (f s a))

/-- An update that leaves the three by definition. -/
theorem ofSame {s t : State} (sources : t.sources = s.sources) (health : t.health = s.health)
    (settings : t.ctl.settings = s.ctl.settings) : RecordFrame s t := ⟨⟨sources, health⟩, settings⟩

end RecordFrame

theorem TableStep.recordFrame {s t : State} (h : TableStep s t) (frame : SourceFrame s t) : RecordFrame s t :=
  ⟨frame, congrArg Control.settings h.ctl⟩

theorem QuietStep.recordFrame {s t : State} (h : QuietStep s t) : RecordFrame s t :=
  h.toTableStep.recordFrame h.sourceFrame

/-- A property of the source records, the health records and the settings that every place where they change
keeps: a judged arrival, DEFINE_SOURCE, CLEAR, a silence expiry, the end of a rate interval, SET_TIME, and the
records of RESET for the ring depth in force. -/
structure SourceInvariant (P : State → Prop) : Prop where
  frame : ∀ {s t : State}, RecordFrame s t → P s → P t
  judged : ∀ {s : State} (src : Fin 48) (k : Nat) (hdr : Option (List Byte)), s.sources[src].enabled = true → P s →
    P (s.judged src k (judgeArrival s.ctl.settings s.health[src] s.sources[src] k hdr))
  define : ∀ {s : State} (o : SourceOrder), P s → P ((s.modSource o.src (·.define o)).defineHealth s.sources[o.src] o)
  clear : ∀ {s : State} (i : Fin 48), s.healthOf i = .failed → s.sources[i].faultMode = .latched → P s →
    P (s.clearSource i)
  silence : ∀ {s : State} (i : Fin 48), P s → P (s.takeSilence i)
  interval : ∀ {s : State}, P s → P s.clearIntervals
  house : ∀ {s : State} (new : Nat), P s → P (s.setHouse new)
  reset : ∀ {s : State}, (∀ i : Fin 48, s.sources[i] = .reset s.ctl.settings.d) →
    (∀ i : Fin 48, s.health[i] = .reset) → P s

/-! ### Commands that leave the records of the sources -/

theorem State.modTime_recordFrame (f : TimeBase → TimeBase) (s : State) : RecordFrame s (s.modTime f) :=
  .ofSame rfl rfl rfl

theorem State.windowRead_recordFrame (t : Txn) (w : Fin 32) (k off : Nat) (s : State) :
    RecordFrame s (s.windowRead t w k off) := by
  have fill : ∀ x reason, RecordFrame s (s.answerFill t w k x reason) := by
    intro x reason
    rw [State.answerFill_eq, State.fillTables_frame]
    exact .ofSame rfl rfl rfl
  have deliver : ∀ x leg src m e, RecordFrame s (s.answerDeliver t w k x leg src m e) := by
    intro x leg src m e
    have wrote : RecordFrame s (s.putWindow w (x.deliver s.ctl.settings.d k leg src m e).advance) :=
      .ofSame rfl rfl rfl
    have fed := wrote.trans ((State.feedHolder_step x.holder (fun y => y.deliver e.len (distance e.seq x.last))
      _).recordFrame (State.feedHolder_sourceFrame _ _ _))
    exact fed.trans (.ofSame rfl rfl rfl)
  unfold State.windowRead State.windowHeaderRead State.windowPayloadRead
  split
  · split
    · exact fill _ _
    · exact deliver _ _ _ _ _
  · split <;> exact .ofSame rfl rfl rfl

theorem State.refuse_recordFrame (t : Txn) (kind : StrayKind) (s : State) : RecordFrame s (s.refuse t kind) := by
  unfold State.refuse
  dsimp only
  split <;> exact .ofSame rfl rfl rfl

theorem State.handOff_recordFrame (word : WatchedWord) (cls : InitiatorClass) (value : Word32) (s : State) :
    RecordFrame s (s.handOff word cls value) := by
  have tail : RecordFrame s (s.tailWrite value) := by
    unfold State.tailWrite
    split <;> exact .ofSame rfl rfl rfl
  have consumer : RecordFrame s (s.consumerWrite value) := by
    unfold State.consumerWrite
    dsimp only
    split <;> exact .ofSame rfl rfl rfl
  unfold State.handOff
  cases word
  case start => dsimp only; split <;> exact .ofSame rfl rfl rfl
  case orderTail =>
    dsimp only
    split
    · exact tail
    · exact .refl s
  case reportConsumer =>
    dsimp only
    split
    · exact consumer
    · exact .refl s

theorem State.reportWritten_recordFrame (r : Report) (x : Posting) (okay : Bool) (s : State) :
    RecordFrame s (s.reportWritten r x okay) := by
  have answered : RecordFrame s (s.writeAnswered r x okay) := by
    cases okay <;> exact .ofSame rfl rfl rfl
  have drained := answered.trans
    ((State.drainSettlements_step _).recordFrame (State.drainSettlements_sourceFrame _))
  rw [State.reportWritten_eq]
  split
  · exact drained.trans (.ofSame rfl rfl rfl)
  · exact drained

theorem State.halt_recordFrame (entry : List Byte) (index : Nat) (s : State) : RecordFrame s (s.halt entry index) := by
  have idle : RecordFrame s (State.advanceHead (s.modCtl fun c =>
      { c with act := .halting, haltAnswer := some { tag := orderTag entry, index, created := s.now } })) :=
    .ofSame rfl rfl rfl
  exact idle.trans ((State.haltBookings_step _).recordFrame (State.haltBookings_sourceFrame _))

theorem State.headAnswered_recordFrame (final : Bool) (s : State) :
    RecordFrame s (s.modCtl (·.headAnswered final)) := by
  cases final <;> exact .ofSame rfl rfl rfl

theorem State.statusAnswered_recordFrame (passive : Bool) (s : State) :
    RecordFrame s (s.modCtl (·.statusAnswered passive)) := by
  cases passive <;> exact .ofSame rfl rfl rfl

/-! ### The bodies of the orders that leave them -/

theorem forceLegOrder_recordFrame (e : List Byte) (n : Nat) (s : State) :
    RecordFrame s (forceLegOrder e n s).1 := by
  unfold forceLegOrder
  dsimp only
  repeat' split
  case h_2.isFalse.isTrue => exact (s.forceLeg_quiet _ _).recordFrame
  all_goals exact .refl s

theorem tariffOrder_recordFrame (e : List Byte) (n : Nat) (s : State) : RecordFrame s (tariffOrder e n s).1 := by
  unfold tariffOrder
  split <;> exact .ofSame rfl rfl rfl

theorem bookOrder_recordFrame (e : List Byte) (n : Nat) (s : State) : RecordFrame s (bookOrder e n s).1 := by
  unfold bookOrder
  split
  · exact .refl s
  · split
    · exact .refl s
    · have recorded : ∀ i o, RecordFrame s (s.recordBooking i o) := fun i o => .ofSame rfl rfl rfl
      exact (recorded _ _).trans ((State.firstState_step _ _).recordFrame (State.firstState_sourceFrame _ _))

theorem extendOrder_recordFrame (e : List Byte) (n : Nat) (s : State) : RecordFrame s (extendOrder e n s).1 := by
  unfold extendOrder
  dsimp only
  repeat' split
  all_goals exact .ofSame rfl rfl rfl

theorem releaseOrder_recordFrame (e : List Byte) (n : Nat) (s : State) : RecordFrame s (releaseOrder e n s).1 := by
  unfold releaseOrder
  dsimp only
  repeat' split
  case isFalse.isTrue => exact (s.closeBooking_step _ _ _).recordFrame (s.closeBooking_sourceFrame _ _ _)
  all_goals exact .refl s

theorem cancelOrder_recordFrame (e : List Byte) (n : Nat) (s : State) : RecordFrame s (cancelOrder e n s).1 := by
  unfold cancelOrder
  dsimp only
  repeat' split
  case h_1 | h_2 => exact (s.cancelBooking_step _ _).recordFrame (s.cancelBooking_sourceFrame _ _)
  all_goals exact .refl s

theorem meterOrder_recordFrame (e : List Byte) (n : Nat) (s : State) : RecordFrame s (meterOrder e n s).1 := by
  rw [meterOrder_same]
  exact .refl s

theorem defineWindowOrder_recordFrame (e : List Byte) (n : Nat) (s : State) :
    RecordFrame s (defineWindowOrder e n s).1 := by
  unfold defineWindowOrder
  dsimp only
  repeat' split
  all_goals exact .ofSame rfl rfl rfl

/-! ### Every command keeps a property of the sources -/

namespace SourceInvariant

variable {P : State → Prop} (inv : SourceInvariant P)

include inv

theorem ofSame {s t : State} (hs : P s) (sources : t.sources = s.sources) (health : t.health = s.health)
    (settings : t.ctl.settings = s.ctl.settings) : P t :=
  inv.frame (.ofSame sources health settings) hs

theorem ingress (src : Fin 48) (k off : Nat) (bytes : List (Byte × Bool)) {s : State} (hs : P s) :
    P (s.ingress src k off bytes) := by
  have arrives : ∀ hdr, P (s.arrive src k hdr) := by
    intro hdr
    unfold State.arrive
    dsimp only
    split
    · next enabled => exact inv.judged src k hdr enabled hs
    · exact hs
  unfold State.ingress
  split
  · exact hs
  · exact arrives _
  · exact arrives _

theorem accept (t : Txn) {s : State} (hs : P s) : P (s.accept t) := by
  unfold State.accept
  dsimp only
  split
  · split
    · exact inv.ofSame hs rfl rfl rfl
    · exact inv.ingress _ _ _ _ (inv.ofSame hs rfl rfl rfl)
    · exact inv.frame (s.windowRead_recordFrame _ _ _ _) hs
    · exact inv.frame (s.refuse_recordFrame _ _) hs
  · exact inv.ofSame hs rfl rfl rfl

theorem present (t : Txn) {s : State} (hs : P s) : P (s.present t) := by
  unfold State.present
  split
  · exact inv.ofSame hs rfl rfl rfl
  · exact inv.accept t hs

theorem acceptHeld {s : State} (hs : P s) : P s.acceptHeld := by
  have take : ∀ {s : State}, P s → P s.takeHeld := by
    intro s hs
    unfold State.takeHeld
    split
    · exact hs
    · split
      · exact hs
      · exact inv.accept _ (inv.ofSame hs rfl rfl rfl)
  have takes : ∀ (n : Nat) {s : State}, P s → P (s.takesHeld n) := by
    intro n
    induction n with
    | zero => exact id
    | succ n ih => exact fun hs => ih (take hs)
  exact takes _ hs

theorem issueForwarded {s : State} (hs : P s) : P s.issueForwarded := by
  unfold State.issueForwarded
  split
  · exact hs
  · refine inv.acceptHeld (inv.frame (.foldl _ (fun u w => ?_) _ _) (inv.ofSame hs rfl rfl rfl))
    split
    · exact .refl u
    · exact u.handOff_recordFrame _ _ _

theorem issueOwn {s : State} (hs : P s) : P s.issueOwn := by
  unfold State.issueOwn
  split
  · exact hs
  · exact inv.ofSame hs rfl rfl rfl

/-- An activation gives every source the records of RESET for its ring depth (R24, R75, R81). -/
theorem activate (f : SettingsFields) (check : Word32) (s : State) : P (s.activate f check) :=
  inv.reset (fun _ => Vector.getElem_replicate _) fun _ => Vector.getElem_replicate _

theorem settingsLoaded (resp : Resp) {s : State} (hs : P s) : P (s.settingsLoaded resp) := by
  unfold State.settingsLoaded
  split
  · exact inv.ofSame hs rfl rfl rfl
  · split
    · exact inv.ofSame hs rfl rfl rfl
    · exact inv.activate _ _ _

theorem passiveIfAnswered {s : State} (hs : P s) : P s.passiveIfAnswered := by
  unfold State.passiveIfAnswered
  split
  · exact inv.reset (fun _ => Vector.getElem_replicate _) fun _ => Vector.getElem_replicate _
  · exact hs

/-! ### Orders -/

theorem runOrder {body : Nat → State → State × OrderReply} (hb : ∀ n s, P s → P (body n s).1) (code mtag : Nat)
    (entry : List Byte) {s : State} (hs : P s) : P (s.runOrder code mtag entry body) := by
  have dropped : P (s.dropResponse mtag) := inv.ofSame hs rfl rfl rfl
  unfold State.runOrder
  split
  · exact hs
  · split
    · dsimp only
      split
      · exact inv.ofSame (hb _ _ dropped) rfl rfl rfl
      · exact inv.ofSame dropped rfl rfl rfl
    · exact hs

theorem runOrder_of_recordFrame {body : Nat → State → State × OrderReply} (hb : ∀ n s, RecordFrame s (body n s).1)
    (code mtag : Nat) (entry : List Byte) {s : State} (hs : P s) : P (s.runOrder code mtag entry body) :=
  inv.runOrder (fun n s => inv.frame (hb n s)) code mtag entry hs

theorem defineSourceOrder (e : List Byte) (n : Nat) {s : State} (hs : P s) :
    P (Machine.defineSourceOrder e n s).1 := by
  unfold Machine.defineSourceOrder
  split
  · exact hs
  · split
    · exact hs
    · exact inv.define _ hs

theorem clearOrder (e : List Byte) (n : Nat) {s : State} (hs : P s) : P (Machine.clearOrder e n s).1 := by
  unfold Machine.clearOrder
  split
  · exact hs
  · split
    · next held => exact inv.clear _ held.1 held.2 hs
    · exact hs

theorem setTimeOrder (e : List Byte) (n : Nat) {s : State} (hs : P s) : P (Machine.setTimeOrder e n s).1 := by
  unfold Machine.setTimeOrder
  dsimp only
  split
  · exact hs
  · split
    · exact hs
    · exact inv.house (field e 0x08 8) hs

/-! ### House time -/

theorem takeRate {s : State} (hs : P s) : P s.takeRate := by
  rcases s.takeRate_cases with ⟨_, same⟩ | ⟨t, _, _, taken⟩
  · rwa [same]
  · rw [taken]
    exact inv.interval (inv.frame (State.offerRates_quiet _).recordFrame (inv.ofSame hs rfl rfl rfl))

theorem tick {s : State} (hs : P s) : P s.tick := by
  have taken : P s.takeDue := State.takeDue_induct (P := P) (fun _ => inv.takeRate) (fun _ i => inv.silence i)
    (fun s i => inv.frame ((s.takeRestore_step i).recordFrame (s.takeRestore_sourceFrame i)))
    (fun s i => inv.frame ((s.takePreroll_step i).recordFrame (s.takePreroll_sourceFrame i)))
    (fun s i => inv.frame ((s.takeLineWait_step i).recordFrame (s.takeLineWait_sourceFrame i)))
    (fun s i => inv.frame ((s.takeStart_step i).recordFrame (s.takeStart_sourceFrame i)))
    (fun s i => inv.frame ((s.takeEnd_step i).recordFrame (s.takeEnd_sourceFrame i)))
    (fun s i => inv.frame ((s.takeCap_step i).recordFrame (s.takeCap_sourceFrame i))) s hs
  rw [State.tick_eq]
  exact inv.frame (State.modTime_recordFrame _ _) taken

theorem edge {s : State} (hs : P s) : P s.edge := by
  unfold State.edge
  split
  · exact inv.ofSame hs rfl rfl rfl
  · exact inv.tick hs

/-! ### The commands -/

theorem execMemoryPortIssue {s : State} (hs : P s) : ∃ t, Machine.execMemoryPortIssue s = .next t ∧ P t := by
  refine ⟨_, rfl, ?_⟩
  split
  · exact hs
  · exact inv.issueForwarded hs
  · exact inv.issueOwn hs

theorem execMemoryResponse (mtag : Nat) (resp : Resp) {s : State} (hs : P s) :
    ∃ t, Machine.execMemoryResponse mtag resp s = .next t ∧ P t := by
  refine ⟨_, rfl, ?_⟩
  split
  · exact hs
  · split
    · exact hs
    · exact inv.ofSame hs rfl rfl rfl

theorem execOwnTrafficPlace {s : State} (hs : P s) : ∃ t, Machine.execOwnTrafficPlace s = .next t ∧ P t := by
  refine ⟨_, rfl, ?_⟩
  split
  · exact hs
  · split
    · exact inv.ofSame hs rfl rfl rfl
    · exact hs

theorem execSettingsLoadResponse (mtag : Nat) (resp : Resp) {s : State} (hs : P s) :
    ∃ t, Machine.execSettingsLoadResponse mtag resp s = .next t ∧ P t := by
  refine ⟨_, rfl, ?_⟩
  split
  · split
    · exact inv.settingsLoaded resp (inv.ofSame hs rfl rfl rfl)
    · exact hs
  · exact hs

theorem execOrderTake {s : State} (hs : P s) : ∃ t, Machine.execOrderTake s = .next t ∧ P t := by
  refine ⟨_, rfl, ?_⟩
  split
  · exact inv.ofSame hs rfl rfl rfl
  · exact hs

theorem execOrderFetchFault (mtag : Nat) {s : State} (hs : P s) :
    ∃ t, Machine.execOrderFetchFault mtag s = .next t ∧ P t := by
  refine ⟨_, rfl, ?_⟩
  split
  · exact hs
  · exact inv.ofSame hs rfl rfl rfl

theorem execUnknownOrderKind (mtag : Nat) (entry : List Byte) {s : State} (hs : P s) :
    ∃ t, Machine.execUnknownOrderKind mtag entry s = .next t ∧ P t := by
  refine ⟨_, rfl, ?_⟩
  split
  · exact hs
  · split
    · exact hs
    · exact inv.ofSame hs rfl rfl rfl

theorem execHalt (mtag : Nat) (entry : List Byte) {s : State} (hs : P s) :
    ∃ t, Machine.execHalt mtag entry s = .next t ∧ P t := by
  have dropped : P (s.dropResponse mtag) := inv.ofSame hs rfl rfl rfl
  refine ⟨_, rfl, ?_⟩
  split
  · exact hs
  · split
    · split
      · exact inv.frame (State.halt_recordFrame _ _ _) dropped
      · exact inv.ofSame dropped rfl rfl rfl
    · exact hs

theorem execHaltCompletion {s : State} (hs : P s) : ∃ t, Machine.execHaltCompletion s = .next t ∧ P t := by
  refine ⟨_, rfl, ?_⟩
  split
  · exact hs
  · split
    · exact inv.ofSame hs rfl rfl rfl
    · exact hs

theorem execReportWriteBegin {s : State} (hs : P s) : ∃ t, Machine.execReportWriteBegin s = .next t ∧ P t := by
  refine ⟨_, rfl, ?_⟩
  split
  · split
    · exact inv.ofSame hs rfl rfl rfl
    · exact hs
  · exact hs

theorem execReportWriteResponse (mtag : Nat) (okay : Bool) {s : State} (hs : P s) :
    ∃ t, Machine.execReportWriteResponse mtag okay s = .next t ∧ P t := by
  have dropped : P (s.dropResponse mtag) := inv.ofSame hs rfl rfl rfl
  refine ⟨_, rfl, ?_⟩
  split
  · split
    · exact inv.frame (State.reportWritten_recordFrame _ _ _ _) dropped
    · exact hs
  · exact hs

theorem execHeadWordWriteResponse (mtag : Nat) (okay : Bool) {s : State} (hs : P s) :
    ∃ t, Machine.execHeadWordWriteResponse mtag okay s = .next t ∧ P t := by
  refine ⟨_, rfl, ?_⟩
  split
  · exact inv.passiveIfAnswered (inv.frame (State.headAnswered_recordFrame _ _) (inv.ofSame hs rfl rfl rfl))
  · exact hs

theorem execStatusWordWriteResponse (mtag : Nat) (okay : Bool) {s : State} (hs : P s) :
    ∃ t, Machine.execStatusWordWriteResponse mtag okay s = .next t ∧ P t := by
  have dropped : P (s.dropResponse mtag) := inv.ofSame hs rfl rfl rfl
  refine ⟨_, rfl, ?_⟩
  split
  · exact inv.passiveIfAnswered (inv.frame (State.statusAnswered_recordFrame _ _) dropped)
  · exact dropped
  · exact hs

/-- Every command keeps a property of the sources. -/
theorem exec (c : Instr) {s : State} (hs : P s) : ∃ t, Machine.exec c s = .next t ∧ P t := by
  have whenRunning : ∀ {t}, P t → P (if s.time.running then t else s) := by
    intro t ht
    split
    · exact ht
    · exact hs
  have step : ∀ {t}, TableStep s t → SourceFrame s t → P t := fun step frame => inv.frame (step.recordFrame frame) hs
  cases c with
  | resetAssert => exact ⟨_, rfl, inv.reset State.reset_source State.reset_health⟩
  | resetRelease cpsel =>
    refine ⟨_, rfl, ?_⟩
    split
    · exact inv.acceptHeld (inv.ofSame hs rfl rfl rfl)
    · exact hs
  | houseTick => exact ⟨_, rfl, whenRunning (inv.tick hs)⟩
  | systemPortTransaction t => exact ⟨_, rfl, inv.present t hs⟩
  | ingressWrite t => exact ⟨_, rfl, inv.present t hs⟩
  | headerRead t => exact ⟨_, rfl, inv.present t hs⟩
  | payloadRead t => exact ⟨_, rfl, inv.present t hs⟩
  | memoryPortIssue => exact inv.execMemoryPortIssue hs
  | startWrite value =>
    refine ⟨_, rfl, ?_⟩
    split
    · exact hs
    · exact inv.frame (s.handOff_recordFrame _ _ _) hs
  | orderTailWrite cls value => exact ⟨_, rfl, inv.frame (s.handOff_recordFrame _ _ _) hs⟩
  | reportConsumerWrite cls value => exact ⟨_, rfl, inv.frame (s.handOff_recordFrame _ _ _) hs⟩
  | memoryResponse mtag resp => exact inv.execMemoryResponse mtag resp hs
  | settingsLoadResponse mtag resp => exact inv.execSettingsLoadResponse mtag resp hs
  | ownTrafficPlace => exact inv.execOwnTrafficPlace hs
  | orderTake => exact inv.execOrderTake hs
  | orderFetchFault mtag => exact inv.execOrderFetchFault mtag hs
  | defineSource mtag entry => exact ⟨_, rfl, inv.runOrder (fun n _ => inv.defineSourceOrder entry n) _ _ _ hs⟩
  | clear mtag entry => exact ⟨_, rfl, inv.runOrder (fun n _ => inv.clearOrder entry n) _ _ _ hs⟩
  | forceLeg mtag entry => exact ⟨_, rfl, inv.runOrder_of_recordFrame (forceLegOrder_recordFrame entry) _ _ _ hs⟩
  | tariff mtag entry => exact ⟨_, rfl, inv.runOrder_of_recordFrame (tariffOrder_recordFrame entry) _ _ _ hs⟩
  | book mtag entry => exact ⟨_, rfl, inv.runOrder_of_recordFrame (bookOrder_recordFrame entry) _ _ _ hs⟩
  | extend mtag entry => exact ⟨_, rfl, inv.runOrder_of_recordFrame (extendOrder_recordFrame entry) _ _ _ hs⟩
  | release mtag entry => exact ⟨_, rfl, inv.runOrder_of_recordFrame (releaseOrder_recordFrame entry) _ _ _ hs⟩
  | cancel mtag entry => exact ⟨_, rfl, inv.runOrder_of_recordFrame (cancelOrder_recordFrame entry) _ _ _ hs⟩
  | meter mtag entry => exact ⟨_, rfl, inv.runOrder_of_recordFrame (meterOrder_recordFrame entry) _ _ _ hs⟩
  | defineWindow mtag entry =>
    exact ⟨_, rfl, inv.runOrder_of_recordFrame (defineWindowOrder_recordFrame entry) _ _ _ hs⟩
  | setTime mtag entry => exact ⟨_, rfl, inv.runOrder (fun n _ => inv.setTimeOrder entry n) _ _ _ hs⟩
  | halt mtag entry => exact inv.execHalt mtag entry hs
  | settlementEntry => exact ⟨_, rfl, step s.settlementEnter_step s.settlementEnter_sourceFrame⟩
  | reportWriteBegin => exact inv.execReportWriteBegin hs
  | reportWriteResponse mtag okay => exact inv.execReportWriteResponse mtag okay hs
  | headWordWriteResponse mtag okay => exact inv.execHeadWordWriteResponse mtag okay hs
  | statusWordWriteResponse mtag okay => exact inv.execStatusWordWriteResponse mtag okay hs
  | haltCompletion => exact inv.execHaltCompletion hs
  | rateIntervalExpiry => exact ⟨_, rfl, inv.takeRate hs⟩
  | silenceExpiry src => exact ⟨_, rfl, inv.silence src hs⟩
  | waitToRestoreExpiry b => exact ⟨_, rfl, step (s.takeRestore_step b) (s.takeRestore_sourceFrame b)⟩
  | prerollExpiry b => exact ⟨_, rfl, step (s.takePreroll_step b) (s.takePreroll_sourceFrame b)⟩
  | lineCheckWaitExpiry b => exact ⟨_, rfl, step (s.takeLineWait_step b) (s.takeLineWait_sourceFrame b)⟩
  | startExpiry b => exact ⟨_, rfl, step (s.takeStart_step b) (s.takeStart_sourceFrame b)⟩
  | endExpiry b => exact ⟨_, rfl, step (s.takeEnd_step b) (s.takeEnd_sourceFrame b)⟩
  | overrunCapExpiry b => exact ⟨_, rfl, step (s.takeCap_step b) (s.takeCap_sourceFrame b)⟩
  | refclkEdge => exact ⟨_, rfl, whenRunning (inv.edge hs)⟩
  | unknownOrderKind mtag entry => exact inv.execUnknownOrderKind mtag entry hs

/-- Every step keeps a property of the sources. -/
theorem step {s t : State} (h : Machine.step s = .next t) (hs : P s) : P t := by
  unfold Machine.step at h
  split at h
  · cases h
    exact hs
  · next c rest _ =>
    obtain ⟨u, next, kept⟩ := inv.exec c (inv.ofSame (t := { s with pending := rest }) hs rfl rfl rfl)
    cases next.symm.trans h
    exact kept

end SourceInvariant

end Sys2Proof.Machine

namespace Sys2Proof.Machine

/-! ## Slot tables (R69, R71, R72) -/

/-! ### The table after an arrival -/

/-- What an accepted sequence `q` leaves of another valid entry (R71). -/
def SlotEntry.aged (q : Word16) (x : SlotEntry) : Option SlotEntry := if newer x.seq q then none else some x

theorem SlotEntry.aged_eq_some_iff {q : Word16} {x e : SlotEntry} :
    x.aged q = some e ↔ x = e ∧ newer e.seq q = false := by
  unfold SlotEntry.aged
  split
  · next newer => exact ⟨nofun, fun ⟨same, old⟩ => absurd (same ▸ newer) (Bool.eq_false_iff.1 old)⟩
  · next old =>
    rw [Option.some.injEq]
    exact ⟨fun same => ⟨same, same ▸ Bool.eq_false_iff.2 old⟩, And.left⟩

theorem ageSlots_eq (slots : List (Option SlotEntry)) (k : Nat) (q : Word16) (len : Nat) :
    ageSlots slots k q len = (slots.map (·.bind (SlotEntry.aged q))).set k (some { seq := q, len }) := by
  refine congrArg (fun aged : Option SlotEntry → Option SlotEntry => (slots.map aged).set k _) (funext fun e => ?_)
  cases e <;> rfl

theorem length_ageSlots (slots : List (Option SlotEntry)) (k : Nat) (q : Word16) (len : Nat) :
    (ageSlots slots k q len).length = slots.length := by
  rw [ageSlots_eq, List.length_set, List.length_map]

theorem ageSlots_same {slots : List (Option SlotEntry)} {k : Nat} (inside : k < slots.length) (q : Word16) (len : Nat) :
    (ageSlots slots k q len)[k]? = some (some { seq := q, len }) := by
  rw [ageSlots_eq, List.getElem?_set_self (by rwa [List.length_map])]

theorem ageSlots_other (slots : List (Option SlotEntry)) {j k : Nat} (h : j ≠ k) (q : Word16) (len : Nat) :
    (ageSlots slots k q len)[j]? = slots[j]?.map (·.bind (SlotEntry.aged q)) := by
  rw [ageSlots_eq, List.getElem?_set_ne h.symm, List.getElem?_map]

/-- A valid entry after an acceptance is the packet's own, or one that was there and is not newer (R69, R71). -/
theorem ageSlots_valid {slots : List (Option SlotEntry)} {j k : Nat} {q : Word16} {len : Nat} {e : SlotEntry}
    (valid : (ageSlots slots k q len)[j]? = some (some e)) :
    (j = k ∧ e = { seq := q, len }) ∨ (slots[j]? = some (some e) ∧ newer e.seq q = false) := by
  by_cases same : j = k
  · subst same
    have inside : j < slots.length := by
      rw [← length_ageSlots slots j q len]
      exact (List.getElem?_eq_some_iff.1 valid).1
    rw [ageSlots_same inside] at valid
    cases valid
    exact Or.inl ⟨rfl, rfl⟩
  · rw [ageSlots_other _ same, Option.map_eq_some_iff] at valid
    obtain ⟨stood, at_j, aged⟩ := valid
    obtain ⟨x, rfl, kept⟩ := Option.bind_eq_some_iff.1 aged
    obtain ⟨rfl, old⟩ := SlotEntry.aged_eq_some_iff.1 kept
    exact Or.inr ⟨at_j, old⟩

theorem newer_self (q : Word16) : newer q q = false := by
  simp [newer]

/-! ### The law of one table (R71) -/

section Tables

variable {d : Nat} {r : Source}

theorem Source.slotsOk_congr {r' : Source} (slots : r'.slots = r.slots) (last : r'.last = r.last) (h : r.slotsOk d) :
    r'.slotsOk d := by
  rwa [Source.slotsOk, slots, last]

/-- A wholly invalid table. -/
theorem Source.slotsOk_of_invalid (length : r.slots.length = d) (invalid : ∀ x ∈ r.slots, x = none) : r.slotsOk d :=
  ⟨length, fun _ e valid => absurd (invalid _ (List.mem_of_getElem? valid)) (Option.some_ne_none e)⟩

theorem Source.slotsOk_reset : (Source.reset d).slotsOk d :=
  Source.slotsOk_of_invalid List.length_replicate fun _ => List.eq_of_mem_replicate

theorem Source.slotsOk_clearBaseline (h : r.slotsOk d) : r.clearBaseline.slotsOk d := by
  refine Source.slotsOk_of_invalid (List.length_map _ |>.trans h.1) fun x hx => ?_
  obtain ⟨_, _, rfl⟩ := List.mem_map.1 hx
  rfl

/-- An entry placed at its sequence modulo `d` keeps the law, since the newer ones are aged out. -/
theorem Source.slotsOk_accept {k : Nat} {q : Word16} (len : Nat) (place : q.toNat % d = k) (h : r.slotsOk d) :
    (r.accept k q len).slotsOk d := by
  obtain ⟨length, entries⟩ := h
  refine ⟨(length_ageSlots _ _ _ _).trans length, fun j e valid => ?_⟩
  rcases ageSlots_valid valid with ⟨rfl, rfl⟩ | ⟨stood, old⟩
  · exact ⟨place, q, rfl, newer_self q⟩
  · exact ⟨(entries j e stood).1, q, rfl, old⟩

theorem Source.slotsOk_void (k : Nat) (c : VoidCause) (h : r.slotsOk d) : (r.void k c).slotsOk d := by
  obtain ⟨length, entries⟩ := h
  refine ⟨List.length_set.trans length, fun j e valid => entries j e ?_⟩
  by_cases same : k = j
  · subst same
    have emptied : (r.slots.set k none)[k]? = some (some e) := valid
    rw [List.getElem?_set_self', Option.map_eq_map, Option.map_eq_some_iff] at emptied
    obtain ⟨_, _, absent⟩ := emptied
    cases absent
  · rwa [← List.getElem?_set_ne same]

theorem Source.slotsOk_define (o : SourceOrder) (h : r.slotsOk d) : (r.define o).slotsOk d := by
  unfold Source.define
  dsimp only
  split
  · exact Source.slotsOk_congr rfl rfl h
  · have recorded : Source.slotsOk d _ := Source.slotsOk_congr rfl rfl h
    exact Source.slotsOk_congr rfl rfl (Source.slotsOk_clearBaseline recorded)

end Tables

/-! ### Every table -/

/-- An accepted arrival stands at its sequence modulo the ring depth (check MISPLACED, R67). -/
theorem judgeArrival_accepted_place {g : Settings} {h : Health} {r : Source} {k : Nat} {hdr : Option (List Byte)}
    {q : Word16} {len : Nat} (accepted : judgeArrival g h r k hdr = .accepted q len) : q.toNat % g.d = k := by
  unfold judgeArrival at accepted
  repeat' split at accepted
  case h_2.isFalse.isFalse.isFalse.isFalse.isFalse.isFalse placed _ _ =>
    cases accepted
    exact not_not.1 placed
  all_goals cases accepted

theorem State.slotLaw_of_sources {s t : State} (sources : t.sources = s.sources)
    (settings : t.ctl.settings = s.ctl.settings) (law : s.slotLaw) : t.slotLaw := by
  rwa [State.slotLaw, sources, settings]

theorem TableStep.slotLaw {s t : State} (h : TableStep s t) (sources : t.sources = s.sources) (law : s.slotLaw) :
    t.slotLaw :=
  State.slotLaw_of_sources sources (congrArg Control.settings h.ctl) law

/-- The record of one source changes and keeps the law of its table. -/
theorem State.slotLaw_modSource {i : Fin 48} {f : Source → Source} {s : State}
    (ok : s.sources[i].slotsOk s.ctl.settings.d → (f s.sources[i]).slotsOk s.ctl.settings.d) (law : s.slotLaw) :
    (s.modSource i f).slotLaw := by
  intro j
  by_cases same : i = j
  · subst same
    rw [State.modSource_same]
    exact ok (law i)
  · rw [State.modSource_other same]
    exact law j

theorem State.setHealth_slotLaw (src : Fin 48) (h : Health) (c : HealthCause) {s : State} (law : s.slotLaw) :
    (s.setHealth src h c).slotLaw :=
  (s.setHealth_step src h c).slotLaw (s.setHealth_sources src h c) law

theorem State.defineHealth_sources (r : Source) (o : SourceOrder) (s : State) :
    (s.defineHealth r o).sources = s.sources := by
  unfold State.defineHealth
  dsimp only
  split
  · exact State.setHealth_sources _ _ _ _
  · exact State.setHealth_sources _ _ _ _
  · split <;> rfl
  · rfl

theorem State.slotLaw_invariant : SourceInvariant State.slotLaw where
  frame same := State.slotLaw_of_sources same.sources same.settings
  judged {s} src k hdr _ law := by
    refine State.setHealth_slotLaw _ _ _ (State.slotLaw_modSource (fun ok => ?_) law)
    cases verdict : judgeArrival s.ctl.settings s.health[src] s.sources[src] k hdr with
    | accepted q len => exact Source.slotsOk_accept len (judgeArrival_accepted_place verdict) ok
    | voided c => exact Source.slotsOk_void k c ok
  define o law :=
    (State.defineHealth_step _ _ _).slotLaw (State.defineHealth_sources _ _ _)
      (State.slotLaw_modSource (Source.slotsOk_define o) law)
  clear i _ _ law := State.setHealth_slotLaw _ _ _ (State.slotLaw_modSource Source.slotsOk_clearBaseline law)
  silence {s} i law := (s.takeSilence_step i).slotLaw (s.takeSilence_sources i) law
  interval {s} law i := by
    have record : s.clearIntervals.sources[i] = s.sources[i].clearInterval := Vector.getElem_map ..
    rw [record]
    exact Source.slotsOk_congr rfl rfl (law i)
  house _ law := law
  reset sources _ i := by
    rw [sources]
    exact Source.slotsOk_reset

/-- Settles O54: R71's law is a property of the source records and the ring depth. -/
theorem slotTablesStayConsistent : Obligations.SlotTablesStayConsistent :=
  fun _ _ law h => State.slotLaw_invariant.step h law

end Sys2Proof.Machine

namespace Sys2Proof.Machine

/-! ## Arrivals are classed and judged (R60, R63 to R68, R73) -/

/-! ### The class of a write (R60) -/

theorem classifyWrite_payload {off : Nat} (bytes : List (Byte × Bool)) (far : 32 ≤ off) :
    classifyWrite off bytes = .payload := if_pos far

/-- Inside the header a write is a commit when it carries the whole header from offset 0. -/
theorem classifyWrite_header {off : Nat} (bytes : List (Byte × Bool)) (near : off < 32) :
    classifyWrite off bytes =
      if off = 0 ∧ 32 ≤ bytes.length ∧ ∀ b ∈ bytes.take 32, b.2 = true then .commit else .torn := by
  unfold classifyWrite Config.headerBytes
  simp only [if_neg (Nat.not_le.2 near), Bool.and_eq_true, decide_eq_true_iff, List.all_eq_true, and_assoc]

theorem classifyWrite_commit {bytes : List (Byte × Bool)} (whole : 32 ≤ bytes.length)
    (enabled : ∀ b ∈ bytes.take 32, b.2 = true) : classifyWrite 0 bytes = .commit := by
  rw [classifyWrite_header bytes (by decide), if_pos ⟨rfl, whole, enabled⟩]

theorem classifyWrite_torn {off : Nat} {bytes : List (Byte × Bool)} (near : off < 32)
    (part : off ≠ 0 ∨ bytes.length < 32 ∨ ∃ b ∈ bytes.take 32, b.2 = false) : classifyWrite off bytes = .torn := by
  rw [classifyWrite_header bytes near, if_neg]
  rintro ⟨start, whole, enabled⟩
  rcases part with late | short | ⟨b, carried, clear⟩
  · exact late start
  · exact absurd whole (Nat.not_le.2 short)
  · exact Bool.false_ne_true (clear.symm.trans (enabled b carried))

/-! ### The classes of an arrival event (R73) -/

theorem arrivalClass_voided_impairing_iff (r : Source) (c : VoidCause) :
    arrivalClass r (.voided c) = .voidImpairing ↔
      c = .torn ∨ c = .check ∨ c = .tag ∨ c = .length ∨ c = .misplaced := by
  cases c <;> simp [arrivalClass]

theorem arrivalClass_voided_neutral_iff (r : Source) (c : VoidCause) :
    arrivalClass r (.voided c) = .voidNeutral ↔ c = .held ∨ c = .stale ∨ c = .overRate := by
  cases c <;> simp [arrivalClass]

/-! ### Serial comparison (R133) -/

theorem newer_iff (a b : Word16) : newer a b = true ↔ 1 ≤ (a - b).toNat ∧ (a - b).toNat ≤ 32767 := by
  rw [newer, Bool.and_eq_true, decide_eq_true_iff, decide_eq_true_iff]

theorem newer_eq_false_iff (a b : Word16) : newer a b = false ↔ (a - b).toNat = 0 ∨ 32768 ≤ (a - b).toNat := by
  rw [← Bool.not_eq_true, newer_iff]
  omega

/-- An arrival is stale when a baseline is present that it is not newer than (R68). -/
theorem stale_iff (r : Source) (q : Word16) :
    (r.last.isSome = true ∧ (!newerThan q r.last) = true) ↔ ∃ l, r.last = some l ∧ newer q l = false := by
  cases r.last <;> simp [newerThan]

/-! ### The eight checks in order (Table 4-2) -/

section Checks

variable {g : Settings} {h : Health} {r : Source} {k : Nat} {w : List Byte}

theorem judgeArrival_held (held : h.state = .failed ∧ r.faultMode = .latched) (hdr : Option (List Byte)) :
    judgeArrival g h r k hdr = .voided .held := if_pos held

variable (heard : ¬(h.state = .failed ∧ r.faultMode = .latched))

include heard

theorem judgeArrival_torn : judgeArrival g h r k none = .voided .torn := if_neg heard

theorem judgeArrival_check (bad : headerCheck w ≠ xor16 (headerBody w)) :
    judgeArrival g h r k (some w) = .voided .check := by
  have fails : headerCheckOk w = false := beq_false_of_ne bad
  simp only [judgeArrival, if_neg heard, fails, Bool.not_false, if_true]

variable (sound : headerCheck w = xor16 (headerBody w))

include sound

/-- The checks that follow a correct check word. -/
theorem judgeArrival_sound : judgeArrival g h r k (some w) =
    if headerTag w ≠ r.tag then .voided .tag
    else if headerLength w < g.lmin ∨ g.z < headerLength w + 32 then .voided .length
    else if (headerSeq w).toNat % g.d ≠ k then .voided .misplaced
    else if ∃ l, r.last = some l ∧ newer (headerSeq w) l = false then .voided .stale
    else if r.allowance ≠ 0 ∧ r.allowance < r.intervalBytes + headerLength w then .voided .overRate
    else .accepted (headerSeq w) (headerLength w) := by
  have holds : headerCheckOk w = true := beq_iff_eq.2 sound
  simp only [judgeArrival, if_neg heard, holds, Bool.not_true, Bool.false_eq_true, if_false, stale_iff]

variable (tag : headerTag w = r.tag)

theorem judgeArrival_tag (wrong : headerTag w ≠ r.tag) : judgeArrival g h r k (some w) = .voided .tag := by
  rw [judgeArrival_sound heard sound, if_pos wrong]

include tag

theorem judgeArrival_length (outside : headerLength w < g.lmin ∨ g.z < headerLength w + 32) :
    judgeArrival g h r k (some w) = .voided .length := by
  rw [judgeArrival_sound heard sound, if_neg (not_not.2 tag), if_pos outside]

variable (least : g.lmin ≤ headerLength w) (most : headerLength w + 32 ≤ g.z)

include least most

/-- The checks that follow a length in range. -/
theorem judgeArrival_measured : judgeArrival g h r k (some w) =
    if (headerSeq w).toNat % g.d ≠ k then .voided .misplaced
    else if ∃ l, r.last = some l ∧ newer (headerSeq w) l = false then .voided .stale
    else if r.allowance ≠ 0 ∧ r.allowance < r.intervalBytes + headerLength w then .voided .overRate
    else .accepted (headerSeq w) (headerLength w) := by
  rw [judgeArrival_sound heard sound, if_neg (not_not.2 tag), if_neg (by omega)]

theorem judgeArrival_misplaced (elsewhere : (headerSeq w).toNat % g.d ≠ k) :
    judgeArrival g h r k (some w) = .voided .misplaced := by
  rw [judgeArrival_measured heard sound tag least most, if_pos elsewhere]

variable (placed : (headerSeq w).toNat % g.d = k)

include placed

theorem judgeArrival_stale {l : Word16} (last : r.last = some l) (old : newer (headerSeq w) l = false) :
    judgeArrival g h r k (some w) = .voided .stale := by
  rw [judgeArrival_measured heard sound tag least most, if_neg (not_not.2 placed), if_pos ⟨l, last, old⟩]

variable (fresh : ∀ l, r.last = some l → newer (headerSeq w) l = true)

include fresh

/-- The check that follows a sequence newer than the baseline. -/
theorem judgeArrival_fresh : judgeArrival g h r k (some w) =
    if r.allowance ≠ 0 ∧ r.allowance < r.intervalBytes + headerLength w then .voided .overRate
    else .accepted (headerSeq w) (headerLength w) := by
  rw [judgeArrival_measured heard sound tag least most, if_neg (not_not.2 placed), if_neg]
  rintro ⟨l, last, old⟩
  exact Bool.false_ne_true (old.symm.trans (fresh l last))

end Checks

/-- Settles O13: the classes of a write, the impairing causes, and each check behind those before it. -/
theorem arrivalsAreClassedAndJudged : Obligations.ArrivalsAreClassedAndJudged := by
  refine ⟨fun off bytes => ⟨classifyWrite_payload bytes, ?_, classifyWrite_torn⟩, arrivalClass_voided_impairing_iff,
    fun g h r k w => ⟨fun failed latched hdr => judgeArrival_held ⟨failed, latched⟩ hdr, fun heard =>
      ⟨judgeArrival_torn heard, judgeArrival_check heard, fun sound => ⟨judgeArrival_tag heard sound, fun tag =>
        ⟨judgeArrival_length heard sound tag, fun least most =>
          ⟨judgeArrival_misplaced heard sound tag least most, fun placed => ⟨fun l last old => ?_, fun newest =>
            ?_⟩⟩⟩⟩⟩⟩⟩
  · rintro rfl
    exact classifyWrite_commit
  · exact judgeArrival_stale heard sound tag least most placed last ((newer_eq_false_iff _ _).2 old)
  · have judged := judgeArrival_fresh heard sound tag least most placed fun l last =>
      (newer_iff _ _).2 (newest l last)
    refine ⟨fun limited excess => ?_, fun within => ?_⟩
    · rw [judged, if_pos ⟨limited, excess⟩]
    · rw [judged, if_neg (by omega)]

end Sys2Proof.Machine

namespace Sys2Proof.Machine

/-! ## Judged arrivals (R60 to R62, R69 to R73, R88, R91) -/

/-! ### Changes of one source -/

/-- `t` follows from `s` by changes of the records of source `src`, with what a change of its health does. -/
structure SourceStep (src : Fin 48) (s t : State) : Prop extends TableStep s t where
  others : ∀ i, i ≠ src → t.sources[i] = s.sources[i] ∧ t.health[i] = s.health[i]
  calendar : t.calendar = s.calendar
  useCounts : t.useCounts = s.useCounts
  windows : t.windows = s.windows
  settlements : t.settlements = s.settlements
  bookings : s.bookingsQuiet t

theorem SourceStep.trans {src : Fin 48} {s t u : State} (a : SourceStep src s t) (b : SourceStep src t u) :
    SourceStep src s u where
  toTableStep := a.toTableStep.trans b.toTableStep
  others i other :=
    ⟨(b.others i other).1.trans (a.others i other).1, (b.others i other).2.trans (a.others i other).2⟩
  calendar := b.calendar.trans a.calendar
  useCounts := b.useCounts.trans a.useCounts
  windows := b.windows.trans a.windows
  settlements := b.settlements.trans a.settlements
  bookings := State.bookingsQuiet_trans a.bookings b.bookings

theorem QuietStep.sourceStep {s t : State} (h : QuietStep s t) (src : Fin 48) : SourceStep src s t where
  toTableStep := h.toTableStep
  others _ _ := ⟨by rw [h.sources], by rw [h.health]⟩
  calendar := h.calendar
  useCounts := h.useCounts
  windows := h.windows
  settlements := h.settlements
  bookings := h.bookings

theorem State.modSource_sourceStep (src : Fin 48) (f : Source → Source) (s : State) :
    SourceStep src s (s.modSource src f) :=
  ⟨s.modSource_step src f, fun _ other => ⟨State.modSource_other other.symm f s, rfl⟩, rfl, rfl, rfl, rfl,
    State.bookingsQuiet_of_eq rfl⟩

theorem State.putHealth_sourceStep (src : Fin 48) (h : Health) (s : State) : SourceStep src s (s.putHealth src h) :=
  ⟨s.putHealth_step src h, fun _ other => ⟨rfl, State.putHealth_other other.symm h s⟩, rfl, rfl, rfl, rfl,
    State.bookingsQuiet_of_eq rfl⟩

theorem State.setHealth_sourceStep (src : Fin 48) (h : Health) (c : HealthCause) (s : State) :
    SourceStep src s (s.setHealth src h c) :=
  (s.putHealth_sourceStep src h).trans ((s.setHealth_quiet src h c).sourceStep src)

theorem State.setHealth_same (src : Fin 48) (h : Health) (c : HealthCause) (s : State) :
    (s.setHealth src h c).health[src] = h := by
  rw [s.setHealth_health]
  exact s.putHealth_same src h

/-- A health record that keeps its state takes its values and no step of R88. -/
theorem State.setHealth_of_state_eq {src : Fin 48} {h : Health} {s : State} (same : s.health[src].state = h.state)
    (c : HealthCause) : s.setHealth src h c = s.putHealth src h := if_pos same

theorem State.putHealth_self (src : Fin 48) (s : State) : s.putHealth src s.health[src] = s :=
  congrArg (fun health => { s with health }) (Vector.set_getElem_self src.isLt)

/-! ### The records after a judged arrival -/

/-- The source record after a judged arrival (R69, R72). -/
def Source.arrived (r : Source) (k : Nat) : Verdict → Source
  | .accepted q len => r.accept k q len
  | .voided c => r.void k c

/-- The health record after a judged arrival (R83 to R87). -/
def State.heard (s : State) (src : Fin 48) (k : Nat) (v : Verdict) : Health :=
  s.health[src].afterArrival (s.sources[src].arrived k v) s.now (arrivalClass s.sources[src] v)

theorem State.judged_eq (src : Fin 48) (k : Nat) (v : Verdict) (s : State) :
    s.judged src k v = State.setHealth src (s.heard src k v) (arrivalCause s.sources[src] v)
      (s.modSource src fun _ => s.sources[src].arrived k v) := by
  cases v <;> rfl

theorem State.judged_source (src : Fin 48) (k : Nat) (v : Verdict) (s : State) :
    (s.judged src k v).sources[src] = s.sources[src].arrived k v := by
  rw [State.judged_eq, State.setHealth_sources]
  exact State.modSource_same src _ s

theorem State.judged_health (src : Fin 48) (k : Nat) (v : Verdict) (s : State) :
    (s.judged src k v).health[src] = s.heard src k v := by
  rw [State.judged_eq, State.setHealth_same]

theorem State.judged_sourceStep (src : Fin 48) (k : Nat) (v : Verdict) (s : State) :
    SourceStep src s (s.judged src k v) := by
  rw [State.judged_eq]
  exact (s.modSource_sourceStep src _).trans (State.setHealth_sourceStep src _ _ _)

/-! ### The write as one event (R60 to R62) -/

theorem State.ingress_payload {src : Fin 48} {k off : Nat} {bytes : List (Byte × Bool)} {s : State}
    (payload : classifyWrite off bytes = .payload) : s.ingress src k off bytes = s := by
  simp only [State.ingress, payload]

theorem State.arrive_of_not_enabled {src : Fin 48} {s : State} (off : s.sources[src].enabled = false) (k : Nat)
    (hdr : Option (List Byte)) : s.arrive src k hdr = s := if_neg (Bool.eq_false_iff.1 off)

theorem State.arrive_of_enabled {src : Fin 48} {s : State} (on : s.sources[src].enabled = true) (k : Nat)
    (hdr : Option (List Byte)) : s.arrive src k hdr =
      s.judged src k (judgeArrival s.ctl.settings s.health[src] s.sources[src] k hdr) := if_pos on

theorem State.ingress_of_not_enabled {src : Fin 48} {s : State} (off : s.sources[src].enabled = false) (k x : Nat)
    (bytes : List (Byte × Bool)) : s.ingress src k x bytes = s := by
  unfold State.ingress
  split
  · rfl
  · exact State.arrive_of_not_enabled off k _
  · exact State.arrive_of_not_enabled off k _

/-- A header commit is judged by its header, a torn commit without one (R62). -/
theorem State.ingress_of_verdict {src : Fin 48} {k off : Nat} {bytes : List (Byte × Bool)} {s : State} {v : Verdict}
    (on : s.sources[src].enabled = true)
    (verdict : (classifyWrite off bytes = .commit ∧
        judgeArrival s.ctl.settings s.health[src] s.sources[src] k (some (commitHeader bytes)) = v) ∨
      (classifyWrite off bytes = .torn ∧ judgeArrival s.ctl.settings s.health[src] s.sources[src] k none = v)) :
    s.ingress src k off bytes = s.judged src k v := by
  rcases verdict with ⟨commit, rfl⟩ | ⟨torn, rfl⟩
  · simp only [State.ingress, commit, State.arrive_of_enabled on]
  · simp only [State.ingress, torn, State.arrive_of_enabled on]

/-- A write that the decode hands to the arrival checker is forwarded and then taken by it (R7, R60). -/
theorem exec_ingressWrite {s : State} {t : Txn} {src : Fin 48} {k off : Nat} {bytes : List (Byte × Bool)}
    (h : s.decodes t (.check src k off)) (access : t.access = .write bytes) :
    exec (.ingressWrite t) s = .next
      ((s.entered { txn := t, cls := s.path.classMap[t.id], rewrite := none }).ingress src k off bytes) := by
  rw [exec_of_presents (Or.inr (Or.inl rfl)), State.present_of_decodes h]
  obtain ⟨_, decoding, decoded⟩ := h
  simp only [State.accept, decoding, if_true, decoded, access, accessBytes]
  rfl

/-! ### An accepted commit (R69 to R71, R73, R87) -/

/-- Packets are missing before a sequence more than 1 from the baseline (R70). -/
theorem Source.one_lt_gapOf_iff (r : Source) (q : Word16) :
    1 < r.gapOf q ↔ ∃ l, r.last = some l ∧ 1 < (q - l).toNat := by
  unfold Source.gapOf distance
  cases r.last <;> simp

theorem arrival_of_gap {r : Source} {q : Word16} (gap : 1 < r.gapOf q) (len : Nat) :
    arrivalClass r (.accepted q len) = .acceptedGap ∧ arrivalCause r (.accepted q len) = .gap :=
  ⟨if_pos gap, if_pos gap⟩

theorem arrival_of_no_gap {r : Source} {q : Word16} (next : ¬1 < r.gapOf q) (len : Nat) :
    arrivalClass r (.accepted q len) = .accepted ∧ arrivalCause r (.accepted q len) = .accepted :=
  ⟨if_neg next, if_neg next⟩

/-- The transition of an accepted arrival leaves the silence expiry that the arrival armed (R87). -/
theorem Health.transition_accepted_silence (h : Health) (r : Source) :
    (h.transition r .accepted).silence = h.silence := by
  have good : (h.goodStep r).silence = h.silence := by
    unfold Health.goodStep
    dsimp only
    split <;> rfl
  unfold Health.transition
  cases h.state
  case suspect => exact good
  case failed =>
    dsimp only
    split
    · exact good
    · rfl
  all_goals rfl

theorem State.heard_silence_of_no_gap {src : Fin 48} {s : State} {q : Word16} (next : ¬1 < s.sources[src].gapOf q)
    (k len : Nat) :
    (s.heard src k (.accepted q len)).silence = some (s.now + s.sources[src].silenceLimit) := by
  rw [State.heard, (arrival_of_no_gap next len).1]
  exact Health.transition_accepted_silence _ _

/-- Settles O14: the write is forwarded, and the judged arrival is the record, its table and the health event. -/
theorem acceptedCommitEntersTheSlotTable : Obligations.AcceptedCommitEntersTheSlotTable := by
  intro t s src k bytes q len decodes access commit enabled accepted gap
  let e := s.entered { txn := t, cls := s.path.classMap[t.id], rewrite := none }
  have source : (e.judged src k (.accepted q len)).sources[src] = s.sources[src].accept k q len := e.judged_source _ _ _
  have step := e.judged_sourceStep src k (.accepted q len)
  have gap_iff := s.sources[src].one_lt_gapOf_iff q
  refine ⟨e.judged src k (.accepted q len), ?_, ⟨arrivalClass s.sources[src] (.accepted q len),
      arrivalCause s.sources[src] (.accepted q len), fun missing => arrival_of_gap (gap_iff.2 missing) len,
      fun next => arrival_of_no_gap (mt gap_iff.1 next) len, ?_⟩, step.port, ?_, fun inside => ?_, fun j other => ?_,
    fun next => ?_, step.others, step.windows, step.path, step.ctl, step.time, step.tariffs, step.calendar,
    step.useCounts, step.settlements, step.bookings⟩
  · rw [exec_ingressWrite decodes access]
    exact congrArg Host.Outcome.next (State.ingress_of_verdict (s := e) enabled (Or.inl ⟨commit, accepted⟩))
  · rw [source]
    exact e.judged_eq src k (.accepted q len)
  · rw [source]
    unfold Source.accept Source.gapOf distance
    cases s.sources[src].last <;> rfl
  · rw [source]
    exact ageSlots_same inside q len
  · rw [source]
    refine (ageSlots_other _ other q len).trans (congrArg (Option.map · _) (funext fun x => ?_))
    cases x <;> rfl
  · have noGap : ¬1 < s.sources[src].gapOf q := by
      rw [gap_iff]
      rintro ⟨l, last, missing⟩
      exact absurd (next l last) (Nat.ne_of_gt missing)
    rw [e.judged_health]
    exact State.heard_silence_of_no_gap (s := e) noGap k len

/-! ### A voided arrival (R72, R73) -/

/-- A void raises the counter of its cause, which holds at its maximum, and no other (R72). -/
theorem voidCount_bump (v : VoidCounters) (cause c : VoidCause) :
    voidCount (v.bump cause) c = if c = cause then min 4294967295 (voidCount v c + 1) else voidCount v c := by
  cases cause <;> cases c <;> rfl

theorem Health.transition_neutral (h : Health) (r : Source) : h.transition r .voidNeutral = h := by
  unfold Health.transition
  cases h.state <;> rfl

/-- A neutral void leaves the health record as it is (R73). -/
theorem State.judged_neutral {s : State} {src : Fin 48} {cause : VoidCause}
    (neutral : arrivalClass s.sources[src] (.voided cause) = .voidNeutral) (k : Nat) :
    s.judged src k (.voided cause) = s.modSource src fun _ => s.sources[src].void k cause := by
  have unmoved : s.heard src k (.voided cause) = s.health[src] := by
    rw [State.heard, neutral]
    exact Health.transition_neutral _ _
  rw [State.judged_eq, unmoved]
  exact (State.setHealth_of_state_eq rfl _).trans (State.putHealth_self src _)

theorem arrivalClass_voided (r : Source) (c : VoidCause) :
    arrivalClass r (.voided c) = .voidImpairing ∨ arrivalClass r (.voided c) = .voidNeutral := by
  cases c
  case held | stale | overRate => exact Or.inr rfl
  all_goals exact Or.inl rfl

/-- Settles O15: a write that is not judged is forwarded, and a voided arrival is its record and the health event. -/
theorem voidedArrivalInvalidatesItsSlot : Obligations.VoidedArrivalInvalidatesItsSlot := by
  constructor
  · intro t s src k off bytes decodes access unjudged
    rw [exec_ingressWrite decodes access]
    rcases unjudged with payload | disabled
    · rw [State.ingress_payload payload]
    · exact congrArg Host.Outcome.next (State.ingress_of_not_enabled (s := s.entered _) disabled _ _ _)
  intro t s src k off bytes cause decodes access enabled voided neutral
  let e := s.entered { txn := t, cls := s.path.classMap[t.id], rewrite := none }
  have source : (e.judged src k (.voided cause)).sources[src] = s.sources[src].void k cause := e.judged_source _ _ _
  have step := e.judged_sourceStep src k (.voided cause)
  have neutral_iff := arrivalClass_voided_neutral_iff s.sources[src] cause
  refine ⟨e.judged src k (.voided cause), ?_, ⟨arrivalClass s.sources[src] (.voided cause),
      arrivalCause s.sources[src] (.voided cause), neutral_iff.2,
      fun impairs => (arrivalClass_voided _ _).resolve_right (mt neutral_iff.1 impairs), ?_, ?_, ?_, ?_, ?_, ?_⟩,
    step.port, ?_, fun c => ?_, fun passes => ?_, step.others, step.windows, step.path, step.ctl, step.time,
    step.tariffs, step.calendar, step.useCounts, step.settlements, step.bookings⟩
  · rw [exec_ingressWrite decodes access]
    exact congrArg Host.Outcome.next (State.ingress_of_verdict (s := e) enabled voided)
  iterate 5
    · rintro rfl
      rfl
  · rw [source]
    exact e.judged_eq src k (.voided cause)
  · rw [source]
    rfl
  · rw [source]
    exact voidCount_bump _ _ _
  · rw [State.judged_neutral (s := e) (neutral_iff.2 passes) k]
    exact ⟨rfl, rfl, rfl, rfl⟩

end Sys2Proof.Machine

namespace Sys2Proof.Machine

/-! ## DEFINE_SOURCE (R77 to R80, R88, R89, R91) -/

/-! ### The ranges of the entry (R77) -/

theorem indexOf?_eq_some_iff {k n : Nat} {i : Fin k} : indexOf? k n = some i ↔ i.val = n := by
  unfold indexOf?
  split
  · rw [Option.some.injEq, Fin.ext_iff]
    exact eq_comm
  · next outside => exact ⟨nofun, fun same => absurd (same ▸ i.isLt) outside⟩

theorem flagOf?_eq_some_iff {n : Nat} {b : Bool} : flagOf? n = some b ↔ n = b.toNat := by
  unfold flagOf?
  split
  · cases b <;> simp
  · cases b <;> simp
  · cases b <;> simpa

theorem faultModeOf?_eq_some_iff {n : Nat} {m : FaultMode} :
    faultModeOf? n = some m ↔ (m = .latched ∧ n = 0) ∨ (m = .recovering ∧ n = 1) := by
  unfold faultModeOf?
  split
  · cases m <;> simp
  · cases m <;> simp
  · cases m <;> simpa

theorem indexOf?_exists_iff {k n : Nat} : (∃ i, indexOf? k n = some i) ↔ n < k := by
  simp only [indexOf?_eq_some_iff]
  exact ⟨fun ⟨i, same⟩ => same ▸ i.isLt, fun inside => ⟨⟨n, inside⟩, rfl⟩⟩

theorem flagOf?_exists_iff {n : Nat} : (∃ b, flagOf? n = some b) ↔ n ≤ 1 := by
  simp only [flagOf?_eq_some_iff, Bool.exists_bool, Bool.toNat_false, Bool.toNat_true]
  omega

theorem faultModeOf?_exists_iff {n : Nat} : (∃ m, faultModeOf? n = some m) ↔ n ≤ 1 := by
  simp only [faultModeOf?_eq_some_iff, exists_or, exists_eq_left]
  omega

theorem word16At_ne_zero_iff (e : List Byte) (off : Nat) : word16At e off ≠ 0 ↔ field e off 2 ≠ 0 := by
  have small : field e off 2 < 256 ^ 2 := field_lt _ _ _
  have value : (word16At e off).toNat = field e off 2 := by
    rw [word16At, BitVec.toNat_ofNat]
    exact Nat.mod_eq_of_lt small
  rw [← value, not_iff_not, ← BitVec.toNat_inj]
  rfl

/-- The entry reads as an order when its ranges hold, and the order is its fields. -/
theorem sourceOrder?_eq_some_iff {e : List Byte} {o : SourceOrder} : sourceOrder? e = some o ↔
    (indexOf? 48 (field e 0x08 1) = some o.src ∧ flagOf? (field e 0x09 1) = some o.enable ∧
      faultModeOf? (field e 0x10 1) = some o.faultMode) ∧
    (field e 0x0A 2 ≠ 0 ∧ 1 ≤ field e 0x11 1 ∧ field e 0x11 1 ≤ 15 ∧ 1 ≤ field e 0x12 1 ∧ field e 0x12 1 ≤ 255) ∧
    o.tag = word16At e 0x0A ∧ o.silence = field e 0x0C 4 ∧ o.strikeLimit = field e 0x11 1 ∧
      o.recoveryCount = field e 0x12 1 ∧ o.allowance = field e 0x14 4 := by
  obtain ⟨src, enable, tag, silence, faultMode, strikeLimit, recoveryCount, allowance⟩ := o
  unfold sourceOrder?
  split
  · next i b m index flag mode =>
    simp only [index, flag, mode, word16At_ne_zero_iff, Option.some.injEq]
    split
    · next ranges =>
      simp only [ranges, Option.some.injEq, SourceOrder.mk.injEq]
      tauto
    · next ranges => exact ⟨nofun, fun ⟨_, holds, _⟩ => absurd holds ranges⟩
  · next unread => exact ⟨nofun, fun ⟨⟨index, flag, mode⟩, _⟩ => (unread _ _ _ index flag mode).elim⟩

theorem sourceOrder?_exists_iff (e : List Byte) : (∃ o, sourceOrder? e = some o) ↔
    field e 0x08 1 ≤ 47 ∧ field e 0x09 1 ≤ 1 ∧ field e 0x0A 2 ≠ 0 ∧ field e 0x10 1 ≤ 1 ∧ 1 ≤ field e 0x11 1 ∧
      field e 0x11 1 ≤ 15 ∧ 1 ≤ field e 0x12 1 ∧ field e 0x12 1 ≤ 255 := by
  constructor
  · rintro ⟨o, reads⟩
    obtain ⟨⟨index, flag, mode⟩, ⟨tag, ranges⟩, _⟩ := sourceOrder?_eq_some_iff.1 reads
    exact ⟨Nat.le_of_lt_succ (indexOf?_exists_iff.1 ⟨_, index⟩), flagOf?_exists_iff.1 ⟨_, flag⟩, tag,
      faultModeOf?_exists_iff.1 ⟨_, mode⟩, ranges⟩
  · rintro ⟨src, enable, tag, mode, ranges⟩
    obtain ⟨i, index⟩ := indexOf?_exists_iff.2 (Nat.lt_succ_of_le src)
    obtain ⟨b, flag⟩ := flagOf?_exists_iff.2 enable
    obtain ⟨m, code⟩ := faultModeOf?_exists_iff.2 mode
    exact ⟨⟨i, b, _, _, m, _, _, _⟩,
      sourceOrder?_eq_some_iff.2 ⟨⟨index, flag, code⟩, ⟨tag, ranges⟩, rfl, rfl, rfl, rfl, rfl⟩⟩

theorem sourceOrder?_fields {e : List Byte} {o : SourceOrder} (reads : sourceOrder? e = some o) :
    o.src.val = field e 0x08 1 ∧ (o.enable = true ↔ field e 0x09 1 = 1) ∧ o.tag = word16At e 0x0A ∧
      o.silence = field e 0x0C 4 ∧ (o.faultMode = .latched ↔ field e 0x10 1 = 0) ∧
      (o.faultMode = .recovering ↔ field e 0x10 1 = 1) ∧ o.strikeLimit = field e 0x11 1 ∧
      o.recoveryCount = field e 0x12 1 ∧ o.allowance = field e 0x14 4 := by
  obtain ⟨⟨index, flag, mode⟩, _, tag, silence, strikes, recovery, allowance⟩ := sourceOrder?_eq_some_iff.1 reads
  have modes : (o.faultMode = .latched ↔ field e 0x10 1 = 0) ∧ (o.faultMode = .recovering ↔ field e 0x10 1 = 1) := by
    rcases faultModeOf?_eq_some_iff.1 mode with ⟨latched, code⟩ | ⟨recovering, code⟩
    · simp [latched, code]
    · simp [recovering, code]
  refine ⟨indexOf?_eq_some_iff.1 index, ?_, tag, silence, modes.1, modes.2, strikes, recovery, allowance⟩
  rw [flagOf?_eq_some_iff.1 flag, Bool.toNat_eq_one]

/-! ### The source record (R77, R78) -/

/-- The silence limit is held between 10 ms and 60 s (R77). -/
theorem silenceUsed_eq (v : Nat) : silenceUsed v = if v < 10 then 10 else if 60000 < v then 60000 else v := by
  unfold silenceUsed
  split_ifs <;> omega

theorem silenceUsed_bne (v : Nat) : (silenceUsed v != v) = decide (v < 10 ∨ 60000 < v) := by
  rw [Bool.eq_iff_iff, bne_iff_ne, decide_eq_true_iff]
  unfold silenceUsed
  omega

/-- With the enable as it was, the settings are recorded and nothing else changes (R78). -/
theorem Source.define_of_same {r : Source} {o : SourceOrder} (same : r.enabled = o.enable) :
    r.define o = { r with
      tag := o.tag, silenceLimit := silenceUsed o.silence, faultMode := o.faultMode, strikeLimit := o.strikeLimit,
      recoveryCount := o.recoveryCount, allowance := o.allowance } := by
  unfold Source.define
  rw [if_pos same, same]

/-- A change of enable clears the baseline, the slot table and the interval figures as well (R78). -/
theorem Source.define_of_flip {r : Source} {o : SourceOrder} (flip : r.enabled ≠ o.enable) :
    r.define o = { r with
      enabled := o.enable, tag := o.tag, silenceLimit := silenceUsed o.silence, faultMode := o.faultMode,
      strikeLimit := o.strikeLimit, recoveryCount := o.recoveryCount, allowance := o.allowance, last := none,
      newest := none, intervalBytes := 0, overRate := 0, slots := r.slots.map fun _ => none } := by
  unfold Source.define
  rw [if_neg flip]
  rfl

/-! ### The health record (R89) -/

section HealthUnit

variable {before : Source} {o : SourceOrder} {s : State}

theorem State.defineHealth_of_enable (off : before.enabled = false) (on : o.enable = true) :
    s.defineHealth before o = s.setHealth o.src (.entered s.now (silenceUsed o.silence)) .enable := by
  simp only [State.defineHealth, off, on]

theorem State.defineHealth_of_disable (on : before.enabled = true) (off : o.enable = false) :
    s.defineHealth before o = s.setHealth o.src .reset .disable := by
  simp only [State.defineHealth, off, on]

/-- With the enable as it was, a change of fault mode of a FAILED source alone concerns the health unit. -/
theorem State.defineHealth_of_same (same : before.enabled = o.enable) : s.defineHealth before o =
    if o.enable = true ∧ s.health[o.src].state = .failed ∧ before.faultMode ≠ o.faultMode then
      s.putHealth o.src (s.health[o.src].faultModeSet o.faultMode s.now (silenceUsed o.silence))
    else s := by
  unfold State.defineHealth
  rw [same]
  cases o.enable
  · rw [if_neg (fun held => Bool.false_ne_true held.1)]
  · exact if_congr (by simp only [true_and, State.healthOf]) rfl rfl

theorem State.defineHealth_sourceStep : SourceStep o.src s (s.defineHealth before o) := by
  unfold State.defineHealth
  dsimp only
  split
  · exact s.setHealth_sourceStep _ _ _
  · exact s.setHealth_sourceStep _ _ _
  · split
    · exact s.putHealth_sourceStep _ _
    · exact (QuietStep.refl s).sourceStep _
  · exact (QuietStep.refl s).sourceStep _

end HealthUnit

/-- The health record that a change of enable gives (R89). -/
def SourceOrder.flipHealth (o : SourceOrder) (now : Nat) : Health :=
  if o.enable then .entered now (silenceUsed o.silence) else .reset

/-- The cause of the change of health that a change of enable is (R91). -/
def SourceOrder.flipCause (o : SourceOrder) : HealthCause := if o.enable then .enable else .disable

section Flip

variable (o : SourceOrder)

theorem SourceOrder.flipHealth_of_enable (on : o.enable = true) (now : Nat) :
    o.flipHealth now = .entered now (silenceUsed o.silence) := if_pos on

theorem SourceOrder.flipHealth_of_disable (off : o.enable = false) (now : Nat) : o.flipHealth now = .reset :=
  if_neg (Bool.eq_false_iff.1 off)

theorem SourceOrder.flipCause_of_enable (on : o.enable = true) : o.flipCause = .enable := if_pos on

theorem SourceOrder.flipCause_of_disable (off : o.enable = false) : o.flipCause = .disable :=
  if_neg (Bool.eq_false_iff.1 off)

end Flip

theorem Health.faultModeSet_eq (h : Health) (mode : FaultMode) (now limit : Nat) :
    h.faultModeSet mode now limit =
      { h with goodRun := 0, silence := if mode = .recovering then some (now + limit) else none } := by
  cases mode <;> rfl

/-! ### The tables after the order -/

/-- The tables after a DEFINE_SOURCE that is carried out. -/
def State.defineSource (o : SourceOrder) (s : State) : State :=
  (s.modSource o.src (·.define o)).defineHealth s.sources[o.src] o

section Carried

variable {o : SourceOrder} {s : State}

theorem State.defineSource_source (o : SourceOrder) (s : State) :
    (s.defineSource o).sources[o.src] = s.sources[o.src].define o := by
  rw [State.defineSource, State.defineHealth_sources]
  exact State.modSource_same _ _ s

theorem State.defineSource_sourceStep (o : SourceOrder) (s : State) : SourceStep o.src s (s.defineSource o) :=
  (s.modSource_sourceStep _ _).trans State.defineHealth_sourceStep

/-- A change of enable is a change of health with all its steps (R88, R91). -/
theorem State.defineSource_of_flip (flip : s.sources[o.src].enabled ≠ o.enable) :
    s.defineSource o = State.setHealth o.src (o.flipHealth s.now) o.flipCause (s.modSource o.src (·.define o)) := by
  cases on : o.enable with
  | false =>
    have was : s.sources[o.src].enabled = true := Bool.eq_true_of_not_eq_false (on ▸ flip)
    rw [o.flipHealth_of_disable on, o.flipCause_of_disable on]
    exact State.defineHealth_of_disable was on
  | true =>
    have was : s.sources[o.src].enabled = false := Bool.eq_false_iff.2 (on ▸ flip)
    rw [o.flipHealth_of_enable on, o.flipCause_of_enable on]
    exact State.defineHealth_of_enable was on

theorem State.defineSource_of_fault_mode (same : s.sources[o.src].enabled = o.enable) (on : o.enable = true)
    (failed : s.health[o.src].state = .failed) (moded : s.sources[o.src].faultMode ≠ o.faultMode) :
    s.defineSource o = (s.modSource o.src (·.define o)).putHealth o.src
      (s.health[o.src].faultModeSet o.faultMode s.now (silenceUsed o.silence)) :=
  (State.defineHealth_of_same same).trans (if_pos ⟨on, failed, moded⟩)

theorem State.defineSource_of_unmoved (same : s.sources[o.src].enabled = o.enable)
    (unmoved : o.enable = false ∨ s.health[o.src].state ≠ .failed ∨ s.sources[o.src].faultMode = o.faultMode) :
    s.defineSource o = s.modSource o.src (·.define o) := by
  refine (State.defineHealth_of_same same).trans (if_neg ?_)
  rintro ⟨on, failed, moded⟩
  rcases unmoved with off | other | kept
  · exact Bool.false_ne_true (off.symm.trans on)
  · exact other failed
  · exact moded kept

/-- Without a change of enable no step of R88 is taken. -/
theorem State.defineSource_quiet (same : s.sources[o.src].enabled = o.enable) :
    (s.defineSource o).poster = s.poster ∧ (s.defineSource o).legs = s.legs ∧
      (s.defineSource o).bookings = s.bookings := by
  rw [State.defineSource, State.defineHealth_of_same same]
  split <;> exact ⟨rfl, rfl, rfl⟩

end Carried

/-! ### The order (R77) -/

theorem State.sourceInUse_iff (s : State) (o : SourceOrder) : s.sourceInUse o = true ↔
    0 < s.useCounts[o.src] ∧ (o.enable = false ∨ o.tag ≠ s.sources[o.src].tag) := by
  simp only [State.sourceInUse, Bool.and_eq_true, Bool.or_eq_true, Bool.not_eq_true', decide_eq_true_iff, bne_iff_ne]

theorem State.sourceInUse_eq_false_iff (s : State) (o : SourceOrder) : s.sourceInUse o = false ↔
    s.useCounts[o.src] = 0 ∨ (o.enable = true ∧ o.tag = s.sources[o.src].tag) := by
  rw [← Bool.not_eq_true, State.sourceInUse_iff, not_and_or, Nat.pos_iff_ne_zero, not_not, not_or, Bool.not_eq_false,
    not_not]

section Order

variable {s : State} {mtag index : Nat} {entry : List Byte} {o : SourceOrder}
  (arrives : s.orderArrives mtag index 1 entry) (shape : shapeOk 1 entry = true)

include arrives shape

theorem exec_defineSource_range (outside : sourceOrder? entry = none) :
    exec (.defineSource mtag entry) s = .next (s.refusedWith mtag index entry .range) := by
  refine congrArg Host.Outcome.next (State.runOrder_refused arrives shape ?_)
  simp only [defineSourceOrder, outside]

theorem exec_defineSource_inUse (reads : sourceOrder? entry = some o) (used : s.sourceInUse o = true) :
    exec (.defineSource mtag entry) s = .next (s.refusedWith mtag index entry .inUse) := by
  have dropped : (s.dropResponse mtag).sourceInUse o = true := used
  refine congrArg Host.Outcome.next (State.runOrder_refused arrives shape ?_)
  simp only [defineSourceOrder, reads, dropped, if_true]

theorem exec_defineSource_done (reads : sourceOrder? entry = some o) (unused : s.sourceInUse o = false) :
    exec (.defineSource mtag entry) s = .next (((s.dropResponse mtag).defineSource o).doneWith index entry
      (silenceUsed o.silence != o.silence) (defineResult o s.sources[o.src])) := by
  have dropped : (s.dropResponse mtag).sourceInUse o = false := unused
  refine congrArg Host.Outcome.next (State.runOrder_done arrives shape ?_)
  simp only [defineSourceOrder, reads, dropped, Bool.false_eq_true, if_false]
  rfl

end Order

/-- Settles O28: the reading of the entry, the two refusals, and the order by whether the enable changes. -/
theorem defineSourceRecordsTheSettings : Obligations.DefineSourceRecordsTheSettings := by
  refine ⟨fun e => ⟨sourceOrder?_exists_iff e, fun _ => sourceOrder?_fields⟩, fun s mtag index entry arrives shape =>
    ⟨exec_defineSource_range arrives shape, fun o reads => ⟨fun used disturbs =>
      exec_defineSource_inUse arrives shape reads ((s.sourceInUse_iff o).2 ⟨used, disturbs⟩), fun unused => ?_⟩⟩⟩
  intro r h limit flip
  have used : silenceUsed o.silence = limit := silenceUsed_eq _
  let d := s.dropResponse mtag
  have source : (d.defineSource o).sources[o.src] = r.define o := d.defineSource_source o
  have step := d.defineSource_sourceStep o
  have flipped : flip → d.defineSource o = State.setHealth o.src (o.flipHealth d.now) o.flipCause _ :=
    fun change => State.defineSource_of_flip (s := d) change
  have entered : o.enable = true → o.flipHealth d.now = .entered d.now limit := fun on =>
    used ▸ o.flipHealth_of_enable on d.now
  refine ⟨d.defineSource o, ?_, fun same => ?_, fun change => ?_,
    fun change => ⟨o.flipHealth d.now, o.flipCause, fun on => ⟨o.flipCause_of_enable on, entered on⟩,
      fun off => ⟨o.flipCause_of_disable off, o.flipHealth_of_disable off _⟩, ?_⟩,
    fun change on => ?_, fun change off => ?_, fun same on failed moded => ?_, fun same unmoved => ?_, fun same => ?_,
    step.others, step.tablesOnly, step.bookings, step.calendar, step.useCounts, step.windows, step.settlements⟩
  · rw [exec_defineSource_done arrives shape reads ((s.sourceInUse_eq_false_iff o).2 unused), silenceUsed_bne, ← used]
    rfl
  · rw [source, Source.define_of_same (not_not.1 same), used]
  · rw [source, Source.define_of_flip change, used]
  · rw [source]
    exact flipped change
  · rw [flipped change, State.setHealth_same, entered on]
    rfl
  · rw [flipped change, State.setHealth_same, o.flipHealth_of_disable off]
    rfl
  · rw [State.defineSource_of_fault_mode (s := d) (not_not.1 same) on failed moded, State.putHealth_same,
      Health.faultModeSet_eq, used]
    rfl
  · rw [State.defineSource_of_unmoved (s := d) (not_not.1 same) unmoved]
    rfl
  · exact State.defineSource_quiet (s := d) (not_not.1 same)

end Sys2Proof.Machine

namespace Sys2Proof.Machine

/-! ## The health records stay lawful (R81 to R91) -/

/-! ### One record -/

section Lawful

variable {h : Health} {r : Source}

/-- The law of a health record reads the enable and the fault mode of its source alone. -/
theorem Health.lawful_congr {r' : Source} (enabled : r'.enabled = r.enabled) (mode : r'.faultMode = r.faultMode)
    (law : h.lawful r) : h.lawful r' := by
  rw [Health.lawful, enabled, mode]
  exact law

/-- A record that enters ABSENT, of an enabled source (R89, R90). -/
theorem Health.entered_lawful (on : r.enabled = true) (now limit : Nat) : (Health.entered now limit).lawful r := by
  simp [Health.lawful, Health.entered, on]

theorem Health.reset_lawful (off : r.enabled = false) : Health.reset.lawful r := by
  simp [Health.lawful, Health.reset, off]

/-- Entry to FAILED from an impairment arms no silence in LATCHED mode and keeps it in RECOVERING mode (R87). -/
theorem Health.failImpaired_lawful (law : h.lawful r) (on : h.state ≠ .disabled) (up : h.state ≠ .failed) :
    (h.failImpaired r).lawful r := by
  obtain ⟨enabled, _, strikes, run, silence⟩ := law
  have armed : h.silence.isSome := silence.2 ⟨on, fun held => up held.1⟩
  refine ⟨?_, by simp [Health.failImpaired], strikes, run, ?_⟩
  · simp [Health.failImpaired, enabled.2 on]
  · cases mode : r.faultMode <;> simp [Health.failImpaired, mode, armed]

/-- SUSPECT, from a state that is neither DISABLED nor FAILED. -/
theorem Health.suspect_lawful (law : h.lawful r) (on : h.state ≠ .disabled) (up : h.state ≠ .failed) :
    ({ h with state := .suspect } : Health).lawful r := by
  obtain ⟨enabled, cause, strikes, run, silence⟩ := law
  have armed : h.silence.isSome := silence.2 ⟨on, fun held => up held.1⟩
  have blameless : ¬h.cause.isSome := fun present => up (cause.1 present)
  exact ⟨by simp [enabled.2 on], by simpa using blameless, strikes, run, by simp [armed]⟩

/-- New counts within their ranges. -/
theorem Health.counts_lawful (law : h.lawful r) {strikes run : Nat} (few : strikes ≤ 15) (short : run ≤ 255) :
    ({ h with strikes := strikes, goodRun := run } : Health).lawful r := by
  obtain ⟨enabled, cause, _, _, silence⟩ := law
  exact ⟨enabled, cause, few, short, silence⟩

/-- The silence expiry armed anew where one may stand (R87). -/
theorem Health.rearm_lawful (law : h.lawful r) (on : h.state ≠ .disabled)
    (heard : ¬(h.state = .failed ∧ r.faultMode = .latched)) (now : Nat) : (h.rearm now r).lawful r := by
  obtain ⟨enabled, cause, strikes, run, _⟩ := law
  exact ⟨enabled, cause, strikes, run, iff_of_true rfl ⟨on, heard⟩⟩

theorem Health.firstStrike_lawful (law : h.lawful r) (on : h.state ≠ .disabled) (up : h.state ≠ .failed) :
    (h.firstStrike r).lawful r := by
  have struck := Health.counts_lawful law (strikes := 1) (run := 0) (by decide) (by decide)
  unfold Health.firstStrike
  dsimp only
  split
  · exact Health.failImpaired_lawful struck on up
  · exact Health.suspect_lawful struck on up

theorem Health.suspectStrike_lawful (law : h.lawful r) (on : h.state ≠ .disabled) (up : h.state ≠ .failed) :
    (h.suspectStrike r).lawful r := by
  have struck := Health.counts_lawful law (strikes := min Config.strikesMax (h.strikes + 1)) (run := 0)
    (Nat.min_le_left _ _) (by decide)
  unfold Health.suspectStrike
  dsimp only
  split
  · exact Health.failImpaired_lawful struck on up
  · exact struck

theorem Health.goodStep_lawful (law : h.lawful r) (on : h.state ≠ .disabled)
    (heard : ¬(h.state = .failed ∧ r.faultMode = .latched)) : (h.goodStep r).lawful r := by
  obtain ⟨enabled, cause, strikes, _, silence⟩ := law
  have armed : h.silence.isSome := silence.2 ⟨on, heard⟩
  unfold Health.goodStep
  dsimp only
  split
  · exact ⟨by simp [enabled.2 on], by simp, Nat.zero_le _, Nat.zero_le _, by simp [armed]⟩
  · exact ⟨enabled, cause, strikes, Nat.min_le_left _ _, silence⟩

/-- GOOD from ABSENT (R83). -/
theorem Health.good_lawful (law : h.lawful r) (absent : h.state = .absent) :
    ({ h with state := .good } : Health).lawful r := by
  obtain ⟨enabled, cause, strikes, run, silence⟩ := law
  exact ⟨by simpa [absent] using enabled, by simpa [absent] using cause, strikes, run, by simpa [absent] using silence⟩

/-- The transition of an arrival event keeps the law, but for an event of a source held FAILED (Table 5-2). -/
theorem Health.transition_lawful (law : h.lawful r) (on : h.state ≠ .disabled)
    (heard : ¬(h.state = .failed ∧ r.faultMode = .latched)) (c : ArrivalClass) : (h.transition r c).lawful r := by
  have strikes : h.strikes ≤ 15 := law.2.2.1
  unfold Health.transition
  split
  case h_1 absent => exact Health.good_lawful law absent
  case h_2 state | h_3 state | h_4 state | h_5 state =>
    exact Health.firstStrike_lawful law on (state ▸ nofun)
  case h_6 => exact Health.goodStep_lawful law on heard
  case h_7 state | h_8 state => exact Health.suspectStrike_lawful law on (state ▸ nofun)
  case h_9 =>
    split
    · exact Health.goodStep_lawful law on heard
    · exact law
  case h_10 | h_11 =>
    split
    · exact Health.counts_lawful law strikes (Nat.zero_le _)
    · exact law
  all_goals exact law

theorem Health.afterArrival_lawful (law : h.lawful r) (on : h.state ≠ .disabled)
    (heard : ¬(h.state = .failed ∧ r.faultMode = .latched)) (now : Nat) (c : ArrivalClass) :
    (h.afterArrival r now c).lawful r := by
  have rearmed := Health.rearm_lawful law on heard now
  cases c with
  | accepted => exact Health.transition_lawful rearmed on heard _
  | acceptedGap => exact Health.transition_lawful rearmed on heard _
  | voidImpairing => exact Health.transition_lawful law on heard _
  | voidNeutral => exact Health.transition_lawful law on heard _

/-- A silence fails the source; RECOVERING arms the next one, LATCHED none (R87). -/
theorem Health.afterSilence_lawful (law : h.lawful r) (armed : h.silence.isSome) (now : Nat) :
    (h.afterSilence r now).lawful r := by
  obtain ⟨enabled, _, strikes, run, silence⟩ := id law
  obtain ⟨on, heard⟩ := silence.1 armed
  have silent : ∀ (x : Nat) (e : Option Nat), x ≤ 255 → (e.isSome ↔ ¬r.faultMode = .latched) →
      ({ state := .failed, strikes := h.strikes, goodRun := x, silence := e, cause := some .silent } :
        Health).lawful r := fun x e short silence =>
    ⟨by simp [enabled.2 on], by simp, strikes, short, by simpa using silence⟩
  unfold Health.afterSilence
  split
  case h_1 => exact Health.rearm_lawful law on heard now
  case h_2 | h_3 =>
    dsimp only
    split
    · next mode => exact silent _ _ (Nat.zero_le _) (iff_of_true rfl (by simp [mode]))
    · next mode => exact silent _ _ run (by cases m : r.faultMode <;> simp_all)
  case h_4 state =>
    split
    · exact Health.rearm_lawful law on heard now
    · next mode => exact absurd ⟨state, by cases m : r.faultMode <;> simp_all⟩ heard
  case h_5 state => exact absurd state on

/-- A change of fault mode of a source that stays FAILED (R89). -/
theorem Health.faultModeSet_lawful (law : h.lawful r) (failed : h.state = .failed) (mode : FaultMode)
    (now limit : Nat) : (h.faultModeSet mode now limit).lawful { r with faultMode := mode } := by
  obtain ⟨enabled, cause, strikes, _, _⟩ := law
  rw [Health.faultModeSet_eq]
  refine ⟨enabled, cause, strikes, Nat.zero_le _, ?_⟩
  cases mode <;> simp [failed]

/-- Only of a FAILED source does the law read the fault mode. -/
theorem Health.lawful_of_mode (law : h.lawful r) {mode : FaultMode} (kept : h.state ≠ .failed ∨ r.faultMode = mode) :
    h.lawful { r with faultMode := mode } := by
  obtain ⟨enabled, cause, strikes, run, silence⟩ := law
  refine ⟨enabled, cause, strikes, run, silence.trans (and_congr_right' (not_congr ?_))⟩
  rcases kept with up | same
  · exact iff_of_false (fun held => up held.1) (fun held => up held.1)
  · rw [same]

end Lawful

/-! ### Every record -/

/-- The records of one source change, and the others stand. -/
theorem State.healthLaw_set {s t : State} {i : Fin 48} {r : Source} {h : Health}
    (sources : t.sources = s.sources.set i r) (health : t.health = s.health.set i h) (lawful : h.lawful r)
    (law : s.healthLaw) : t.healthLaw := by
  intro j
  rw [sources, health]
  by_cases same : i = j
  · subst same
    simpa using lawful
  · have other : i.val ≠ j.val := fun e => same (Fin.ext e)
    simpa [other] using law j

/-- A health record takes lawful values. -/
theorem State.setHealth_healthLaw {i : Fin 48} {h : Health} (c : HealthCause) {s : State}
    (lawful : h.lawful s.sources[i]) (law : s.healthLaw) : (s.setHealth i h c).healthLaw := by
  refine State.healthLaw_set (r := s.sources[i]) ?_ (s.setHealth_health i h c) lawful law
  rw [s.setHealth_sources]
  exact (Vector.set_getElem_self i.isLt).symm

/-- The source record and the health record of one source change together. -/
theorem State.modSource_setHealth_healthLaw {i : Fin 48} {f : Source → Source} {h : Health} (c : HealthCause)
    {s : State} (lawful : h.lawful (f s.sources[i])) (law : s.healthLaw) :
    ((s.modSource i f).setHealth i h c).healthLaw :=
  State.healthLaw_set (State.setHealth_sources _ _ _ _) (State.setHealth_health _ _ _ _) lawful law

/-- An arrival of a source held FAILED is voided HELD, whatever its header (check 1 of Table 4-2). -/
theorem arrivalClass_of_held {g : Settings} {h : Health} {r : Source} (held : h.state = .failed ∧ r.faultMode = .latched)
    (k : Nat) (hdr : Option (List Byte)) : arrivalClass r (judgeArrival g h r k hdr) = .voidNeutral := by
  rw [judgeArrival_held held]
  rfl

/-- A judged arrival leaves a lawful health record (R73, R83 to R87). -/
theorem State.heard_lawful {s : State} {src : Fin 48} (on : s.sources[src].enabled = true)
    (law : s.health[src].lawful s.sources[src]) (k : Nat) (hdr : Option (List Byte)) :
    (s.heard src k (judgeArrival s.ctl.settings s.health[src] s.sources[src] k hdr)).lawful
      (s.sources[src].arrived k (judgeArrival s.ctl.settings s.health[src] s.sources[src] k hdr)) := by
  have arrived : ∀ v, s.health[src].lawful (s.sources[src].arrived k v) := by
    rintro (_ | _) <;> exact Health.lawful_congr rfl rfl law
  by_cases held : s.health[src].state = .failed ∧ s.sources[src].faultMode = .latched
  · have unmoved : ∀ r, s.health[src].afterArrival r s.now .voidNeutral = s.health[src] :=
      Health.transition_neutral _
    rw [State.heard, arrivalClass_of_held held, unmoved]
    exact arrived _
  · have heard : ∀ v, ¬(s.health[src].state = .failed ∧ (s.sources[src].arrived k v).faultMode = .latched) := by
      rintro (_ | _) <;> exact held
    exact Health.afterArrival_lawful (arrived _) (law.1.1 on) (heard _) _ _

/-- DEFINE_SOURCE gives the health record what its enable and its fault mode ask for (R89). -/
theorem State.defineSource_healthLaw (o : SourceOrder) {s : State} (law : s.healthLaw) :
    (s.defineSource o).healthLaw := by
  by_cases same : s.sources[o.src].enabled = o.enable
  · have defined : ∀ {h : Health}, h.lawful { s.sources[o.src] with faultMode := o.faultMode } →
        h.lawful (s.sources[o.src].define o) := fun lawful => by
      rw [Source.define_of_same same]
      exact Health.lawful_congr rfl rfl lawful
    by_cases moved : o.enable = true ∧ s.health[o.src].state = .failed ∧ s.sources[o.src].faultMode ≠ o.faultMode
    · obtain ⟨on, failed, moded⟩ := moved
      rw [State.defineSource_of_fault_mode same on failed moded]
      exact State.healthLaw_set rfl rfl (defined (Health.faultModeSet_lawful (law o.src) failed _ _ _)) law
    · have kept : s.health[o.src].state ≠ .failed ∨ s.sources[o.src].faultMode = o.faultMode := by
        by_contra neither
        obtain ⟨failed, moded⟩ := not_or.1 neither
        have on : s.sources[o.src].enabled = true := (law o.src).1.2 (not_not.1 failed ▸ nofun)
        exact moved ⟨same ▸ on, not_not.1 failed, moded⟩
      have unmoved : o.enable = false ∨ s.health[o.src].state ≠ .failed ∨
          s.sources[o.src].faultMode = o.faultMode := Or.inr kept
      rw [State.defineSource_of_unmoved same unmoved]
      exact State.healthLaw_set rfl (Vector.set_getElem_self o.src.isLt).symm
        (defined (Health.lawful_of_mode (law o.src) kept)) law
  · rw [State.defineSource_of_flip same]
    refine State.modSource_setHealth_healthLaw _ ?_ law
    have enabled : (s.sources[o.src].define o).enabled = o.enable := by rw [Source.define_of_flip same]
    cases on : o.enable with
    | true => exact o.flipHealth_of_enable on _ ▸ Health.entered_lawful (enabled.trans on) _ _
    | false => exact o.flipHealth_of_disable on _ ▸ Health.reset_lawful (enabled.trans on)

theorem State.healthLaw_invariant : SourceInvariant State.healthLaw where
  frame same law := by
    rw [State.healthLaw, same.sources, same.health]
    exact law
  judged {s} src k hdr on law := by
    rw [State.judged_eq]
    exact State.modSource_setHealth_healthLaw _ (State.heard_lawful on (law src) k hdr) law
  define o law := State.defineSource_healthLaw o law
  clear {s} i failed _ law := by
    have state : s.health[i].state = .failed := failed
    have on : s.sources[i].enabled = true := (law i).1.2 (state ▸ nofun)
    exact State.modSource_setHealth_healthLaw _ (Health.entered_lawful (r := s.sources[i].clearBaseline) on _ _) law
  silence {s} i law := by
    cases due : dueAt s.now s.health[i].silence with
    | false => rwa [State.takeSilence_of_not_due due]
    | true =>
      rw [State.takeSilence_of_due due]
      exact State.setHealth_healthLaw _ (Health.afterSilence_lawful (law i) (isSome_of_due due) _) law
  interval {s} law i := by
    have record : s.clearIntervals.sources[i] = s.sources[i].clearInterval := Vector.getElem_map ..
    rw [record]
    exact Health.lawful_congr rfl rfl (law i)
  house {s} new law i := by
    rw [State.setHouse_health]
    obtain ⟨enabled, cause, strikes, run, silence⟩ := law i
    exact ⟨enabled, cause, strikes, run, (Bool.coe_iff_coe.2 Option.isSome_map).trans silence⟩
  reset sources health i := by
    rw [sources, health]
    exact Health.reset_lawful rfl

/-- Settles O55: the law is a property of the source and health records that each place where they change keeps. -/
theorem healthRecordsStayLawful : Obligations.HealthRecordsStayLawful :=
  fun _ _ law h => State.healthLaw_invariant.step h law

end Sys2Proof.Machine

namespace Sys2Proof.Machine

/-! ## The health machine (R83 to R87, Table 5-2) -/

/-! ### Impairments and clean arrivals -/

section Machine

variable (h : Health) (r : Source)

/-- The first impairment, record by record (R83, R84). -/
theorem Health.firstStrike_eq : h.firstStrike r = { h with
    strikes := 1, goodRun := 0
    state := if r.strikeLimit ≤ 1 then .failed else .suspect
    cause := if r.strikeLimit ≤ 1 then some .impaired else h.cause
    silence := if r.strikeLimit ≤ 1 ∧ r.faultMode = .latched then none else h.silence } := by
  unfold Health.firstStrike Health.failImpaired
  by_cases fails : r.strikeLimit ≤ 1 <;> simp [fails]

/-- A further impairment fails the source at the strike limit (R85). -/
theorem Health.suspectStrike_eq : h.suspectStrike r =
    if r.strikeLimit ≤ min 15 (h.strikes + 1) then
      { state := .failed, strikes := min 15 (h.strikes + 1), goodRun := 0, cause := some .impaired
        silence := if r.faultMode = .latched then none else h.silence }
    else { h with strikes := min 15 (h.strikes + 1), goodRun := 0 } := rfl

/-- A clean arrival makes the source GOOD at the recovery count (R85, R86). -/
theorem Health.goodStep_eq : h.goodStep r =
    if r.recoveryCount ≤ min 255 (h.goodRun + 1) then
      { state := .good, strikes := 0, goodRun := 0, silence := h.silence, cause := none }
    else { h with goodRun := min 255 (h.goodRun + 1) } := rfl

end Machine

/-! ### Each state of Table 5-2 -/

section States

variable {h : Health} {r : Source} (now : Nat)

theorem Health.afterArrival_of_absent (state : h.state = .absent) :
    h.afterArrival r now .accepted = { h with state := .good, silence := some (now + r.silenceLimit) } ∧
      h.afterArrival r now .voidImpairing = h.firstStrike r := by
  simp [Health.afterArrival, Health.transition, Health.rearm, state]

theorem Health.afterArrival_of_good (state : h.state = .good) :
    h.afterArrival r now .accepted = h.rearm now r ∧
      h.afterArrival r now .voidImpairing = h.firstStrike r ∧
      h.afterArrival r now .acceptedGap = (h.rearm now r).firstStrike r := by
  simp [Health.afterArrival, Health.transition, Health.rearm, state]

/-- SUSPECT, and FAILED in RECOVERING mode, count clean arrivals (R85, R86). -/
theorem Health.afterArrival_of_recovering
    (state : h.state = .suspect ∨ (h.state = .failed ∧ r.faultMode = .recovering)) :
    h.afterArrival r now .accepted = (h.rearm now r).goodStep r := by
  rcases state with suspect | ⟨failed, mode⟩
  · simp [Health.afterArrival, Health.transition, Health.rearm, suspect]
  · simp [Health.afterArrival, Health.transition, Health.rearm, failed, mode]

theorem Health.afterArrival_of_suspect (state : h.state = .suspect) :
    h.afterArrival r now .voidImpairing = h.suspectStrike r ∧
      h.afterArrival r now .acceptedGap = (h.rearm now r).suspectStrike r := by
  simp [Health.afterArrival, Health.transition, Health.rearm, state]

/-- An impairment of a FAILED source in RECOVERING mode begins its good run anew (R86). -/
theorem Health.afterArrival_of_failed (state : h.state = .failed) (mode : r.faultMode = .recovering) :
    h.afterArrival r now .voidImpairing = { h with goodRun := 0 } ∧
      h.afterArrival r now .acceptedGap = { h with goodRun := 0, silence := some (now + r.silenceLimit) } := by
  simp [Health.afterArrival, Health.transition, Health.rearm, state, mode]

/-- A silence of a source that is ABSENT, or FAILED in RECOVERING mode, arms the next one alone (R87). -/
theorem Health.afterSilence_of_down (state : h.state = .absent ∨ (h.state = .failed ∧ r.faultMode = .recovering)) :
    h.afterSilence r now = h.rearm now r := by
  rcases state with absent | ⟨failed, mode⟩
  · simp [Health.afterSilence, absent]
  · simp [Health.afterSilence, failed, mode]

/-- A silence fails a source that was available (R87). -/
theorem Health.afterSilence_of_available (state : h.state = .good ∨ h.state = .suspect) :
    h.afterSilence r now =
      { state := .failed, strikes := h.strikes, cause := some .silent
        goodRun := if r.faultMode = .recovering then 0 else h.goodRun
        silence := if r.faultMode = .recovering then some (now + r.silenceLimit) else none } := by
  rcases state with good | suspect
  · by_cases mode : r.faultMode = .recovering <;> simp [Health.afterSilence, Health.rearm, good, mode]
  · by_cases mode : r.faultMode = .recovering <;> simp [Health.afterSilence, Health.rearm, suspect, mode]

end States

/-- Settles O30: each state of Table 5-2 in turn, and the silence expiry by whether it is due. -/
theorem healthTransitions : Obligations.HealthTransitions := by
  refine ⟨fun h r now => ⟨fun absent => ?_, fun good => ?_, fun recovering => ?_, fun suspect => ?_,
    Health.afterArrival_of_failed now, Health.transition_neutral h r⟩, fun s x => ⟨fun ahead => ?_, fun e armed reached =>
      ⟨fun down => ?_, fun available => ?_⟩⟩⟩
  · obtain ⟨accepted, impaired⟩ := Health.afterArrival_of_absent (r := r) now absent
    exact ⟨accepted, impaired.trans (h.firstStrike_eq r)⟩
  · obtain ⟨accepted, impaired, gap⟩ := Health.afterArrival_of_good (r := r) now good
    exact ⟨accepted, impaired.trans (h.firstStrike_eq r), gap.trans (Health.firstStrike_eq _ r)⟩
  · exact (Health.afterArrival_of_recovering now recovering).trans (Health.goodStep_eq _ r)
  · obtain ⟨impaired, gap⟩ := Health.afterArrival_of_suspect (r := r) now suspect
    exact ⟨impaired.trans (h.suspectStrike_eq r), gap.trans (Health.suspectStrike_eq _ r)⟩
  · exact congrArg Host.Outcome.next (State.takeSilence_of_not_due ((dueAt_eq_false_iff _ _).2 ahead))
  all_goals
    have due : dueAt s.now s.health[x].silence = true := by
      rw [armed]
      exact decide_eq_true reached
    refine congrArg Host.Outcome.next ((State.takeSilence_of_due due).trans ?_)
  · rw [Health.afterSilence_of_down _ down]
    exact State.setHealth_of_state_eq (h := s.health[x].rearm s.now s.sources[x]) rfl _
  · rw [Health.afterSilence_of_available _ available]
    rfl

/-! ## A change of health (R88, R91) -/

/-- A record that takes a new state completes the steps of R88. -/
theorem State.setHealth_of_state_ne {src : Fin 48} {h : Health} {s : State} (moved : s.health[src].state ≠ h.state)
    (c : HealthCause) : s.setHealth src h c = (s.putHealth src h).healthChanged src s.health[src].state c :=
  if_neg moved

/-- The HEALTH notice of a record that took new values (R91). -/
theorem State.healthNotice_putHealth (src : Fin 48) (h : Health) (before : HealthState) (c : HealthCause) (s : State) :
    (s.putHealth src h).healthNotice src before c =
      { src, before, after := h.state, cause := c, faultMode := s.sources[src].faultMode, strikes := h.strikes,
        goodRun := h.goodRun, failure := h.cause, snapshot := s.sources[src].snapshot } := by
  rw [State.healthNotice, State.putHealth_same]
  rfl

theorem State.namesAbsent_eq_false_iff (s : State) (i : Fin 256) :
    s.namesAbsent i = false ↔ ∀ y ∈ s.bookings[i].sources, s.health[y].state ≠ .absent := by
  simp only [State.namesAbsent, List.any_eq_false, beq_iff_eq, State.healthOf]

/-- A waiting line check ends when no source the booking names is ABSENT (R88 step 3, R113). -/
theorem State.lineCheckTold_eq (i : Fin 256) (s : State) : s.lineCheckTold i =
    if s.bookings[i].lineCheck = .waiting ∧ ∀ y ∈ s.bookings[i].sources, s.health[y].state ≠ .absent then
      s.endLineCheck i .health
    else s := by
  refine if_congr (and_congr_right' ?_) rfl rfl
  rw [Bool.not_eq_true', s.namesAbsent_eq_false_iff]

/-- Settles O31: the record, and where its state changes the steps of R88 over the bookings that name the source. -/
theorem healthChangeStepsRunInOrder : Obligations.HealthChangeStepsRunInOrder := by
  intro s x h cause
  refine ⟨fun same => State.setHealth_of_state_eq same cause, fun moved => ?_⟩
  rw [State.setHealth_of_state_ne moved, State.healthChanged, State.healthNotice_putHealth]
  simp only [State.lineCheckTold_eq]
  rfl

/-! ## CLEAR (R88, R90, R91) -/

section Clear

variable {s : State} {i : Fin 48}

/-- CLEAR takes the baseline, and then the source enters ABSENT as a change of health. -/
theorem State.clearSource_source (i : Fin 48) (s : State) :
    (s.clearSource i).sources[i] = s.sources[i].clearBaseline := by
  rw [State.clearSource, State.setHealth_sources]
  exact State.modSource_same _ _ s

theorem State.clearSource_sourceStep (i : Fin 48) (s : State) : SourceStep i s (s.clearSource i) :=
  (s.modSource_sourceStep _ _).trans (State.setHealth_sourceStep _ _ _ _)

variable {mtag index : Nat} {entry : List Byte} (arrives : s.orderArrives mtag index 2 entry)
  (shape : shapeOk 2 entry = true)

include arrives shape

theorem exec_clear_range (outside : 48 ≤ field entry 8 1) :
    exec (.clear mtag entry) s = .next (s.refusedWith mtag index entry .range) := by
  have none : indexOf? 48 (field entry 8 1) = none := dif_neg (Nat.not_lt.2 outside)
  refine congrArg Host.Outcome.next (State.runOrder_refused arrives shape ?_)
  simp only [clearOrder, none]

theorem exec_clear_wrongState (index_eq : indexOf? 48 (field entry 8 1) = some i)
    (other : ¬(s.health[i].state = .failed ∧ s.sources[i].faultMode = .latched)) :
    exec (.clear mtag entry) s = .next (s.refusedWith mtag index entry .wrongState) := by
  refine congrArg Host.Outcome.next (State.runOrder_refused arrives shape ?_)
  simp only [clearOrder, index_eq]
  exact if_neg other

theorem exec_clear_done (index_eq : indexOf? 48 (field entry 8 1) = some i)
    (held : s.health[i].state = .failed ∧ s.sources[i].faultMode = .latched) :
    exec (.clear mtag entry) s =
      .next (((s.dropResponse mtag).clearSource i).doneWith index entry false (.clear i s.health[i].cause)) := by
  refine congrArg Host.Outcome.next (State.runOrder_done arrives shape ?_)
  simp only [clearOrder, index_eq]
  exact if_pos held

end Clear

/-- Settles O29: the two refusals, and the order as the record of its source and the change of health. -/
theorem clearReleasesAHeldSource : Obligations.ClearReleasesAHeldSource := by
  refine fun s mtag index entry arrives shape => ⟨exec_clear_range arrives shape, fun i at_i =>
    ⟨exec_clear_wrongState arrives shape (indexOf?_eq_some_iff.2 at_i.symm), fun failed latched => ?_⟩⟩
  let d := s.dropResponse mtag
  have source : (d.clearSource i).sources[i] = s.sources[i].clearBaseline := d.clearSource_source i
  have step := d.clearSource_sourceStep i
  refine ⟨d.clearSource i, exec_clear_done arrives shape (indexOf?_eq_some_iff.2 at_i.symm) ⟨failed, latched⟩, ?_,
    source, State.setHealth_same _ _ _ _, step.others, step.tablesOnly, step.bookings, step.calendar, step.useCounts,
    step.windows, step.settlements⟩
  rw [source]
  rfl

end Sys2Proof.Machine

namespace Sys2Proof.Machine

/-! ## Deliverability and spans (R100, R101, R156, R157) -/

theorem HealthState.available_iff (x : HealthState) : x.available = true ↔ x = .good ∨ x = .suspect := by
  cases x <;> simp [HealthState.available]

theorem BookingState.onAirOrOverrun_iff (x : BookingState) : x.onAirOrOverrun = true ↔ x = .onAir ∨ x = .overrun := by
  cases x <;> simp [BookingState.onAirOrOverrun]

/-- What the forced leg asks of the availability of the main and of the backup source (R100). -/
def ForcedLeg.delivers (f : ForcedLeg) (main backup : Bool) : Bool :=
  match f with
  | .auto => main || backup
  | .main => main
  | .backup => backup

section Deliverable

variable {s : State} {i : Fin 256}

theorem State.deliverable_of_none (mode : s.bookings[i].mode = .none) :
    s.deliverable i = s.available s.bookings[i].main := by
  simp only [State.deliverable, mode]

theorem State.deliverable_of_merge (mode : s.bookings[i].mode = .merge) :
    s.deliverable i = (s.available s.bookings[i].main || s.backupAvailable s.bookings[i].backup) := by
  simp only [State.deliverable, mode]

/-- In SWITCH mode a forced leg must be available itself (R100). -/
theorem State.deliverable_of_switch (mode : s.bookings[i].mode = .switch) {l : Leg} (record : s.legs[i] = some l) :
    s.deliverable i =
      l.forced.delivers (s.available s.bookings[i].main) (s.backupAvailable s.bookings[i].backup) := by
  simp only [State.deliverable, mode, State.forcedOf, record]
  cases l.forced <;> rfl

/-! ### The judgement of a booking on air (R101) -/

theorem State.judge_of_off_air (off : ¬s.bookings[i].state.onAirOrOverrun = true) : s.judge i = s := if_neg off

/-- Nothing happens where the open span says what the deliverability says. -/
theorem State.judge_of_agreeing (agrees : s.deliverable i = s.bookings[i].meter.openSpan.isNone) : s.judge i = s := by
  unfold State.judge
  dsimp only
  rw [agrees]
  cases s.bookings[i].meter.openSpan <;> simp

/-- A span opens (R156). -/
theorem State.judge_opens (onAir : s.bookings[i].state.onAirOrOverrun = true) (down : s.deliverable i = false)
    (closed : s.bookings[i].meter.openSpan = none) : s.judge i = s.modMeter i (·.openAt s.now) := by
  simp only [State.judge, onAir, down, closed, Bool.false_eq_true, if_true, if_false, Option.isNone_none]

/-- The open span closes (R157). -/
theorem State.judge_closes (onAir : s.bookings[i].state.onAirOrOverrun = true) (up : s.deliverable i = true) {o : Nat}
    (opened : s.bookings[i].meter.openSpan = some o) :
    s.judge i = s.modMeter i (·.closeAt s.now s.bookings[i].tariff.threshold) := by
  simp only [State.judge, onAir, up, opened, if_true, Option.isSome_some]

theorem Meter.closeAt_of_open {m : Meter} {o : Nat} (opened : m.openSpan = some o) (now t : Nat) :
    m.closeAt now t = { m with
      spans := min 4294967295 (m.spans + 1), longest := max m.longest (now - o)
      qualifying := if t ≤ now - o then m.qualifying + (now - o) else m.qualifying, openSpan := none } := by
  simp [Meter.closeAt, opened, add32, Config.count32Max]

end Deliverable

/-- Settles O34: the table of R100 by mode, and the judgement by what stands and what the table says. -/
theorem spansFollowDeliverability : Obligations.SpansFollowDeliverability := by
  refine fun s i => ⟨State.deliverable_of_none, State.deliverable_of_merge,
    fun mode l record => State.deliverable_of_switch mode record, fun x => HealthState.available_iff _, fun off => ?_,
    fun onAir => ?_⟩
  · refine State.judge_of_off_air fun onAir => ?_
    exact ((BookingState.onAirOrOverrun_iff _).1 onAir).elim off.1 off.2
  · rw [← BookingState.onAirOrOverrun_iff] at onAir
    refine ⟨fun up closed => ?_, fun down opened => ?_, State.judge_opens onAir, fun o up opened => ?_⟩
    · exact State.judge_of_agreeing (by rw [up, closed, Option.isNone_none])
    · exact State.judge_of_agreeing (by rw [down, Option.isNone_eq_false_iff.2 (Option.isSome_iff_ne_none.2 opened)])
    · rw [State.judge_closes onAir up opened, State.modMeter, State.modBooking, Meter.closeAt_of_open opened]
      rfl

/-! ## Leg rules (R94, R95, R99) -/

section LegRules

variable {s : State} {i : Fin 256} {l : Leg} (record : s.legs[i] = some l)

include record

/-- The automatic rule reads the leg it leaves and the other one (R94). -/
theorem State.autoRule_of_auto (cause : LegCause) (auto : l.forced = .auto) {a : LegName} (active : l.active = some a) :
    s.autoRule i cause =
      if s.legAvailable s.bookings[i] a = false ∧ s.legAvailable s.bookings[i] a.other = true then
        s.switchLeg i { l with wtrExp := if a.other = .main then none else l.wtrExp } a a.other cause
      else s := by
  simp only [State.autoRule, record, auto, active, Bool.and_eq_true, Bool.not_eq_true']

theorem State.autoRule_of_pinned (cause : LegCause) (pinned : l.forced ≠ .auto ∨ l.active = none) :
    s.autoRule i cause = s := by
  simp only [State.autoRule, record]
  split
  · next auto active =>
    rcases pinned with forced | inactive
    · exact absurd auto forced
    · cases active.symm.trans inactive
  · rfl

/-- The revert rule waits for the main source to be GOOD (R95). -/
theorem State.revertRule_of_backup (cause : LegCause) (auto : l.forced = .auto) (active : l.active = some .backup)
    (revert : s.bookings[i].revert = true) :
    s.revertRule i cause =
      if s.health[s.bookings[i].main].state = .good then
        if l.wtrExp = none then
          if s.bookings[i].wtr = 0 then s.switchLeg i l .backup .main cause
          else s.putLeg i (some { l with wtrExp := some (s.now + s.bookings[i].wtr) })
        else s
      else s.putLeg i (some { l with wtrExp := none }) := by
  simp only [State.revertRule, record, auto, active, revert, if_true, Option.isNone_iff_eq_none, State.healthOf]

theorem State.revertRule_of_idle (cause : LegCause)
    (idle : l.forced ≠ .auto ∨ l.active ≠ some .backup ∨ s.bookings[i].revert = false) : s.revertRule i cause = s := by
  simp only [State.revertRule, record]
  split
  · next auto active =>
    rcases idle with forced | main | stays
    · exact absurd auto forced
    · exact absurd active main
    · rw [stays]
      rfl
  · rfl

end LegRules

/-- A change of the active leg: the record, the LEG notice and the count (R99). -/
theorem State.switchLeg_eq (i : Fin 256) (l : Leg) (before after : LegName) (cause : LegCause) (s : State) :
    s.switchLeg i l before after cause =
      { State.offer
          (.leg
            { handle := { index := i, gen := s.bookings[i].gen }, before, after, forced := l.forced, cause,
              mainHealth := s.health[s.bookings[i].main].state,
              backupHealth := s.bookings[i].backup.map fun x => s.health[x].state })
          { s with legs := s.legs.set i (some { l with active := some after }) } with
        bookings := s.bookings.set i
          { s.bookings[i] with
            meter := { s.bookings[i].meter with
              legSwitches := min 4294967295 (s.bookings[i].meter.legSwitches + 1) } } } := rfl

/-- Settles O32: each rule by what its leg record and the healths say, and the change of the leg by its definition. -/
theorem legRulesMoveTheActiveLeg : Obligations.LegRulesMoveTheActiveLeg := by
  intro s i l cause record b m k
  refine ⟨fun auto active main backup => ?_, fun auto active backup main => ?_, fun idle => ?_,
    fun auto active revert => ?_, State.revertRule_of_idle record cause, fun before after =>
      s.switchLeg_eq i l before after cause⟩
  · rw [State.autoRule_of_auto record cause auto active]
    exact if_pos ⟨main, backup⟩
  · rw [State.autoRule_of_auto record cause auto active]
    exact if_pos ⟨backup, main⟩
  · rcases idle with forced | inactive | ⟨active, stands⟩ | ⟨active, stands⟩
    · exact State.autoRule_of_pinned record cause (Or.inl forced)
    · exact State.autoRule_of_pinned record cause (Or.inr inactive)
    all_goals
      by_cases auto : l.forced = .auto
      · rw [State.autoRule_of_auto record cause auto active]
        refine if_neg fun ⟨lost, other⟩ => ?_
        rcases stands with up | down
        · exact Bool.false_ne_true (lost.symm.trans up)
        · exact Bool.false_ne_true (down.symm.trans other)
      · exact State.autoRule_of_pinned record cause (Or.inl auto)
  · rw [State.revertRule_of_backup record cause auto active revert]
    refine ⟨fun good idle wait => ?_, fun good idle now => ?_, fun good waits => ?_, fun down => ?_⟩
    · rw [if_pos good, if_pos idle, if_neg wait.ne']
      rfl
    · rw [if_pos good, if_pos idle, if_pos now]
    · rw [if_pos good, if_neg waits]
    · rw [if_neg down]
      rfl

/-! ## FORCE_LEG and the wait to restore (R96 to R98) -/

theorem BookingState.holdsSources_iff (x : BookingState) :
    x.holdsSources = true ↔ x = .preroll ∨ x = .onAir ∨ x = .overrun := by
  cases x <;> simp [BookingState.holdsSources]

theorem State.handleCurrent_iff (s : State) (h : Handle) : s.handleCurrent h = true ↔ s.bookings[h.index].gen = h.gen :=
  beq_iff_eq

/-- The leg record a FORCE_LEG finds, forced before the deliverability is judged (R98). -/
def State.forced (i : Fin 256) (l : Leg) (forced : ForcedLeg) (s : State) : State :=
  match forced with
  | .main => s.pinLeg i l .main .main
  | .backup => s.pinLeg i l .backup .backup
  | .auto => (s.putLeg i (some { l with forced := .auto })).legRules i .forced .forced

theorem State.forceLeg_of_record {s : State} {i : Fin 256} {l : Leg} (record : s.legs[i] = some l) (f : ForcedLeg) :
    s.forceLeg i f = (s.forced i l f).judge i := by
  simp only [State.forceLeg, record]
  cases f <;> rfl

/-- A pinned leg moves from the other one, and stands elsewhere (R98). -/
theorem State.pinLeg_eq (i : Fin 256) (l : Leg) (f : ForcedLeg) (leg : LegName) (s : State) :
    s.pinLeg i l f leg =
      if l.active = some leg.other then s.switchLeg i { l with forced := f, wtrExp := none } leg.other leg .forced
      else s.putLeg i (some { l with forced := f, wtrExp := none }) := by
  unfold State.pinLeg
  cases active : l.active with
  | none => rfl
  | some a => cases a <;> cases leg <;> rfl

section Forcing

variable {s : State} {mtag index : Nat} {entry : List Byte} (arrives : s.orderArrives mtag index 3 entry)
  (shape : shapeOk 3 entry = true)

include arrives shape

theorem exec_forceLeg_range (outside : 3 ≤ field entry 0x0A 1) :
    exec (.forceLeg mtag entry) s = .next (s.refusedWith mtag index entry .range) := by
  have unread : forcedLegOf? (field entry 0x0A 1) = none := by
    unfold forcedLegOf?
    split
    case h_4 => rfl
    all_goals omega
  refine congrArg Host.Outcome.next (State.runOrder_refused arrives shape ?_)
  simp only [forceLegOrder, unread]

variable {forced : ForcedLeg} (reads : forcedLegOf? (field entry 0x0A 1) = some forced)

include reads

theorem exec_forceLeg_noBooking (stale : s.bookings[(orderHandle entry).index].gen ≠ (orderHandle entry).gen) :
    exec (.forceLeg mtag entry) s = .next (s.refusedWith mtag index entry .noBooking) := by
  have old : (s.dropResponse mtag).handleCurrent (orderHandle entry) = false :=
    Bool.eq_false_iff.2 (mt (s.handleCurrent_iff _).1 stale)
  refine congrArg Host.Outcome.next (State.runOrder_refused arrives shape ?_)
  simp only [forceLegOrder, reads, old, Bool.not_false, if_true]

variable (current : s.bookings[(orderHandle entry).index].gen = (orderHandle entry).gen)

include current

theorem exec_forceLeg_wrongState (other : ¬(s.bookings[(orderHandle entry).index].mode = .switch ∧
      s.bookings[(orderHandle entry).index].state.holdsSources = true)) :
    exec (.forceLeg mtag entry) s = .next (s.refusedWith mtag index entry .wrongState) := by
  have live : (s.dropResponse mtag).handleCurrent (orderHandle entry) = true := (s.handleCurrent_iff _).2 current
  refine congrArg Host.Outcome.next (State.runOrder_refused arrives shape ?_)
  simp only [forceLegOrder, reads, live, Bool.not_true, Bool.false_eq_true, if_false]
  exact if_neg other

theorem exec_forceLeg_done (holds : s.bookings[(orderHandle entry).index].mode = .switch ∧
      s.bookings[(orderHandle entry).index].state.holdsSources = true) :
    exec (.forceLeg mtag entry) s =
      let u := (s.dropResponse mtag).forceLeg (orderHandle entry).index forced
      .next (u.doneWith index entry false
        (.forceLeg (orderHandle entry) forced (u.activeOf (orderHandle entry).index))) := by
  have live : (s.dropResponse mtag).handleCurrent (orderHandle entry) = true := (s.handleCurrent_iff _).2 current
  refine congrArg Host.Outcome.next (State.runOrder_done arrives shape ?_)
  simp only [forceLegOrder, reads, live, Bool.not_true, Bool.false_eq_true, if_false]
  exact if_pos holds

end Forcing

/-- The wait to restore is due: the active leg becomes MAIN (R96). -/
theorem State.takeRestore_of_due {s : State} {i : Fin 256} {l : Leg} {e : Nat} (record : s.legs[i] = some l)
    (armed : l.wtrExp = some e) (reached : e ≤ s.now) {a : LegName} (active : l.active = some a) :
    s.takeRestore i = s.switchLeg i { l with wtrExp := none } a .main .restore := by
  simp only [State.takeRestore, record, armed, dueAt, reached, decide_true, if_true, State.restoreLeg, active]

theorem State.takeRestore_of_ahead {s : State} {i : Fin 256}
    (ahead : ∀ l e, s.legs[i] = some l → l.wtrExp = some e → s.now < e) : s.takeRestore i = s := by
  unfold State.takeRestore
  split
  · rfl
  · next l record =>
    have idle : dueAt s.now l.wtrExp = false := (dueAt_eq_false_iff _ _).2 fun e => ahead l e record
    exact if_neg (Bool.eq_false_iff.1 idle)

/-- Settles O33: the refusals in their order, the forced leg by its kind, and the expiry by whether it is due. -/
theorem forceLegAndWaitToRestore : Obligations.ForceLegAndWaitToRestore := by
  refine ⟨fun s mtag index entry arrives shape => ⟨exec_forceLeg_range arrives shape, fun forced reads =>
      ⟨exec_forceLeg_noBooking arrives shape reads, fun current other => ?_, fun l current mode state record => ?_⟩⟩,
    fun s i => ⟨fun l e a record armed reached active => ?_, fun ahead => ?_⟩⟩
  · refine exec_forceLeg_wrongState arrives shape reads current fun ⟨mode, holds⟩ => ?_
    rcases other with unswitched | ⟨preroll, onAir, overrun⟩
    · exact unswitched mode
    · rcases (BookingState.holdsSources_iff _).1 holds with h | h | h
      · exact preroll h
      · exact onAir h
      · exact overrun h
  · let d := s.dropResponse mtag
    refine ⟨d.forceLeg (orderHandle entry).index forced, d.forced (orderHandle entry).index l forced,
      exec_forceLeg_done arrives shape reads current ⟨mode, (BookingState.holdsSources_iff _).2 state⟩,
      State.forceLeg_of_record (s := d) record forced, ?_, ?_, ?_⟩
    · rintro rfl
      exact State.pinLeg_eq _ l .main .main d
    · rintro rfl
      exact State.pinLeg_eq _ l .backup .backup d
    · rintro rfl
      rfl
  · exact congrArg Host.Outcome.next (State.takeRestore_of_due record armed reached active)
  · exact congrArg Host.Outcome.next (State.takeRestore_of_ahead ahead)

end Sys2Proof.Machine

namespace Sys2Proof.Machine

/-! ## ON_AIR entry (R92, R93, R108, R114, R116, R130) -/

/-! ### Windows and use counts of a list -/

/-- A window that is handed over twice stands as after the first time. -/
theorem Window.handed_handed (w : Window) (holder : Option Handle) (takePending : Bool) :
    (w.handed holder takePending).handed holder takePending = w.handed holder takePending := by
  simp [Window.handed]

/-- The windows of the list are handed over, and the others stand. -/
theorem handWindows_getElem (holder : Option Handle) (takePending : Bool) (ws : List (Fin 32)) (v : Vector Window 32)
    (w : Fin 32) : (handWindows holder takePending ws v)[w] =
      if w ∈ ws then v[w].handed holder takePending else v[w] := by
  induction ws generalizing v with
  | nil => simp [handWindows]
  | cons x ws ih =>
    refine (ih (v.set x (v[x].handed holder takePending))).trans ?_
    by_cases same : x = w
    · subst same
      simp [Window.handed_handed]
    · have other : x.val ≠ w.val := fun e => same (Fin.ext e)
      have differs : ¬w = x := fun e => same e.symm
      simp [other, differs]

/-- A use count is raised once for each time the list names its source. -/
theorem raiseUse_getElem (xs : List (Fin 48)) (v : Vector Nat 48) (x : Fin 48) :
    (raiseUse xs v)[x] = v[x] + xs.count x := by
  induction xs generalizing v with
  | nil => simp [raiseUse]
  | cons y xs ih =>
    refine (ih (v.set y (v[y] + 1))).trans ?_
    by_cases same : y = x
    · subst same
      simp only [Fin.getElem_fin, Vector.getElem_set_self, List.count_cons_self]
      omega
    · have other : y.val ≠ x.val := fun e => same (Fin.ext e)
      simp [other, same]

/-- A booking that names two different sources raises each count by one (R108). -/
theorem raiseUse_sources {b : Booking} (distinct : b.backup ≠ some b.main) (v : Vector Nat 48) (x : Fin 48) :
    (raiseUse b.sources v)[x] = if x = b.main ∨ b.backup = some x then v[x] + 1 else v[x] := by
  rw [raiseUse_getElem, Booking.sources, List.count_cons]
  cases named : b.backup with
  | none => by_cases main : x = b.main <;> simp [main, Ne.symm]
  | some y =>
    have differs : y ≠ b.main := fun e => distinct (named.trans (congrArg some e))
    by_cases main : b.main = x
    · subst main
      simp [differs]
    · have notMain : ¬x = b.main := fun e => main e.symm
      by_cases backup : y = x <;> simp [main, notMain, backup]

/-! ### One entry -/

/-- `t` has the booking entries and leg records of `s` but for those of entry `i`. -/
def State.othersStand (i : Fin 256) (s t : State) : Prop :=
  ∀ j, j ≠ i → t.bookings[j] = s.bookings[j] ∧ t.legs[j] = s.legs[j]

theorem State.othersStand.trans {i : Fin 256} {s t u : State} (a : s.othersStand i t) (b : t.othersStand i u) :
    s.othersStand i u :=
  fun j other => ⟨(b j other).1.trans (a j other).1, (b j other).2.trans (a j other).2⟩

section Entry

variable (i : Fin 256) (s : State)

theorem State.othersStand_refl : s.othersStand i s := fun _ _ => ⟨rfl, rfl⟩

theorem State.modBooking_othersStand (f : Booking → Booking) : s.othersStand i (s.modBooking i f) :=
  fun _ other => ⟨State.modBooking_other other.symm f s, rfl⟩

theorem State.offer_othersStand (body : ReportBody) : s.othersStand i (s.offer body) := fun _ _ => ⟨rfl, rfl⟩

theorem State.putLeg_othersStand (l : Option Leg) : s.othersStand i (s.putLeg i l) :=
  fun _ other => ⟨rfl, State.putLeg_other other.symm l s⟩

/-! ### The steps before the windows are routed -/

/-- A line check that is DONE waits no longer (R114). -/
def Booking.lineDone (b : Booking) : Booking := { b with lineCheck := .done, lineExp := none }

/-- The entry after the start has ended a line check that was not DONE (R114). -/
def Booking.lineChecked (b : Booking) : Booking :=
  { b with lineCheck := .done, lineExp := if b.lineCheck = .done then b.lineExp else none }

theorem Booking.lineChecked_of_done {b : Booking} (done : b.lineCheck = .done) : b.lineChecked = b := by
  unfold Booking.lineChecked
  rw [if_pos done]
  cases b
  cases done
  rfl

theorem Booking.lineChecked_of_not_done {b : Booking} (open_ : b.lineCheck ≠ .done) : b.lineChecked = b.lineDone := by
  unfold Booking.lineChecked
  rw [if_neg open_]
  rfl

/-- The entry of a booking that goes on air (R116). -/
def Booking.aired (b : Booking) (now : Nat) : Booking :=
  { b with state := .onAir, actStart := some now, startExp := none }

/-- The end expiry is armed (R116 step 8). -/
def Booking.armed (b : Booking) : Booking := { b with endExp := some b.endE }

theorem Booking.armed_names (b : Booking) :
    b.armed.mode = b.mode ∧ b.armed.main = b.main ∧ b.armed.backup = b.backup := ⟨rfl, rfl, rfl⟩

theorem State.endLineCheck_booking (trigger : LineCheckTrigger) :
    (s.endLineCheck i trigger).bookings[i] = s.bookings[i].lineDone := State.modBooking_same i Booking.lineDone s

theorem State.endLineCheck_othersStand (trigger : LineCheckTrigger) :
    s.othersStand i (s.endLineCheck i trigger) := s.modBooking_othersStand i Booking.lineDone

/-- The booking claims its sources, unless it did at PREROLL entry (R92, R108). -/
def State.claimed (fresh : Bool) : State := if fresh then s.claim i else s

/-- A line check that is not DONE ends with the start (R114). -/
def State.lineChecked : State := if s.bookings[i].lineCheck = .done then s else s.endLineCheck i .start

/-- The entry is ON_AIR (R116). -/
def State.entryAired : State := s.modBooking i (·.aired s.now)

/-- The first steps of R116: the claim, the line check, the entry and its windows. -/
def State.airing (fresh : Bool) : State :=
  let s3 := ((s.claimed i fresh).lineChecked i).entryAired i
  s3.routeWindows (s3.handleOf i) s3.bookings[i].windows

/-- The entry, its windows, its leg and its span, before the ON_AIR notice. -/
def State.airJudged (fresh : Bool) : State := ((s.airing i fresh).setInitialLeg i).judge i

theorem State.enterOnAir_eq (fresh : Bool) (closed : Nat) : s.enterOnAir i fresh closed =
    ((s.airJudged i fresh).offer (.onAir ((s.airJudged i fresh).onAirNotice i closed))).modBooking i
      Booking.armed := rfl

/-- The claim writes use counts and leg records alone. -/
theorem State.claimed_eq (fresh : Bool) : s.claimed i fresh =
    { s with useCounts := (s.claimed i fresh).useCounts, legs := (s.claimed i fresh).legs } := by
  cases fresh <;> rfl

theorem State.claimed_bookings (fresh : Bool) : (s.claimed i fresh).bookings = s.bookings := by
  rw [State.claimed_eq]

theorem State.claimed_othersStand (fresh : Bool) : s.othersStand i (s.claimed i fresh) := by
  intro j other
  refine ⟨by rw [State.claimed_bookings], ?_⟩
  cases fresh with
  | false => rfl
  | true =>
    by_cases mode : s.bookings[i].mode = .switch
    · have put : (s.claimed i true).legs = s.legs.set i (some { active := none, forced := .auto, wtrExp := none }) :=
        if_pos mode
      rw [put]
      exact State.putLeg_other other.symm _ s
    · have same : (s.claimed i true).legs = s.legs := if_neg mode
      rw [same]

theorem State.claimed_leg_of_switch (fresh : Bool) (mode : s.bookings[i].mode = .switch) :
    (s.claimed i fresh).legs[i] =
      if fresh then some { active := none, forced := .auto, wtrExp := none } else s.legs[i] := by
  cases fresh with
  | false => rfl
  | true =>
    have put : (s.claimed i true).legs = s.legs.set i (some { active := none, forced := .auto, wtrExp := none }) :=
      if_pos mode
    rw [put]
    exact State.putLeg_same i _ s

theorem State.claimed_legs_of_not_switch (fresh : Bool) (mode : s.bookings[i].mode ≠ .switch) :
    (s.claimed i fresh).legs = s.legs := by
  cases fresh with
  | false => rfl
  | true => exact if_neg mode

/-- The LINE_CHECK notice of a line check that ends (R114). -/
def State.lineCheckNotice (trigger : LineCheckTrigger) : LineCheckNotice :=
  { handle := s.handleOf i, result := s.lineResult s.bookings[i], trigger,
    mainHealth := s.healthOf s.bookings[i].main, backupHealth := s.healthOf? s.bookings[i].backup }

/-- The line check writes its entry and the poster alone. -/
theorem State.lineChecked_eq : s.lineChecked i =
    { s with bookings := (s.lineChecked i).bookings, poster := (s.lineChecked i).poster } := by
  unfold State.lineChecked
  split <;> rfl

theorem State.lineChecked_othersStand : s.othersStand i (s.lineChecked i) := by
  unfold State.lineChecked
  split
  · exact s.othersStand_refl i
  · exact s.endLineCheck_othersStand i _

theorem State.lineChecked_booking : (s.lineChecked i).bookings[i] = s.bookings[i].lineChecked := by
  unfold State.lineChecked
  split
  · next done => rw [Booking.lineChecked_of_done done]
  · next waits => rw [Booking.lineChecked_of_not_done waits, State.endLineCheck_booking]

theorem State.lineChecked_poster : (s.lineChecked i).poster =
    if s.bookings[i].lineCheck = .done then s.poster
    else s.poster.offer s.now (.lineCheck (s.lineCheckNotice i .start)) := by
  unfold State.lineChecked
  split <;> rfl

/-! ### The entry with its windows routed -/

variable (fresh : Bool)

/-- The first steps of ON_AIR entry write the entry, its leg record, its windows, the use counts and the poster. -/
theorem State.airing_eq : s.airing i fresh =
    { s with
      bookings := (s.airing i fresh).bookings, legs := (s.claimed i fresh).legs
      useCounts := (s.claimed i fresh).useCounts, windows := (s.airing i fresh).windows
      poster := ((s.claimed i fresh).lineChecked i).poster } := by
  have routed : s.airing i fresh =
      { (s.claimed i fresh).lineChecked i with
        bookings := (s.airing i fresh).bookings, windows := (s.airing i fresh).windows } := rfl
  rw [routed, State.lineChecked_eq, State.claimed_eq]

theorem State.airing_booking : (s.airing i fresh).bookings[i] = s.bookings[i].lineChecked.aired s.now := by
  have now : ((s.claimed i fresh).lineChecked i).now = s.now := by
    rw [State.lineChecked_eq, State.claimed_eq]
    rfl
  have entry : (s.airing i fresh).bookings[i] =
      ((s.claimed i fresh).lineChecked i).bookings[i].aired ((s.claimed i fresh).lineChecked i).now :=
    State.modBooking_same i (·.aired ((s.claimed i fresh).lineChecked i).now) _
  rw [entry, State.lineChecked_booking, State.claimed_bookings, now]

theorem State.airing_othersStand : s.othersStand i (s.airing i fresh) :=
  ((s.claimed_othersStand i fresh).trans (State.lineChecked_othersStand i _)).trans
    (State.modBooking_othersStand i ((s.claimed i fresh).lineChecked i)
      (·.aired ((s.claimed i fresh).lineChecked i).now))

/-- The windows of the booking are routed to it, and the others stand (R130). -/
theorem State.airing_window (w : Fin 32) : (s.airing i fresh).windows[w] =
    if w ∈ s.bookings[i].windows then s.windows[w].handed (some (s.handleOf i)) true else s.windows[w] := by
  have entry := s.airing_booking i fresh
  have handle : (((s.claimed i fresh).lineChecked i).entryAired i).handleOf i = s.handleOf i := by
    exact (congrArg (fun b : Booking => Handle.mk i b.gen) entry :)
  have windows : (((s.claimed i fresh).lineChecked i).entryAired i).bookings[i].windows = s.bookings[i].windows :=
    (congrArg Booking.windows entry :)
  have stood : (((s.claimed i fresh).lineChecked i).entryAired i).windows = s.windows := by
    rw [State.entryAired, State.modBooking_windows, State.lineChecked_eq, State.claimed_eq]
  refine (handWindows_getElem _ _ _ _ w).trans ?_
  rw [handle, windows, stood]

end Entry

/-! ### The initial leg and the span -/

/-- The initial active leg by the forced leg and the availability of the two sources (R93). -/
def ForcedLeg.initial (f : ForcedLeg) (main backup : Bool) : LegName :=
  match f with
  | .main => .main
  | .backup => .backup
  | .auto => if main then .main else if backup then .backup else .main

section Initial

variable {s : State} {i : Fin 256}

theorem State.setInitialLeg_of_switch (mode : s.bookings[i].mode = .switch) {l : Leg} (record : s.legs[i] = some l) :
    s.setInitialLeg i = s.putLeg i (some
      { l with
        active := some (l.forced.initial (s.available s.bookings[i].main) (s.backupAvailable s.bookings[i].backup))
        wtrExp := none }) := by
  have initial : s.initialLeg i =
      l.forced.initial (s.available s.bookings[i].main) (s.backupAvailable s.bookings[i].backup) := by
    simp only [State.initialLeg, State.forcedOf, record]
    cases l.forced <;> rfl
  simp only [State.setInitialLeg, mode, record, initial]

theorem State.setInitialLeg_of_not_switch (mode : s.bookings[i].mode ≠ .switch) : s.setInitialLeg i = s := by
  unfold State.setInitialLeg
  split
  · next switch _ => exact absurd switch mode
  · rfl

/-- The initial leg writes the leg record of its entry alone. -/
theorem State.setInitialLeg_eq (i : Fin 256) (s : State) :
    s.setInitialLeg i = { s with legs := (s.setInitialLeg i).legs } := by
  unfold State.setInitialLeg
  split <;> rfl

theorem State.setInitialLeg_othersStand (i : Fin 256) (s : State) : s.othersStand i (s.setInitialLeg i) := by
  unfold State.setInitialLeg
  split
  · exact s.putLeg_othersStand i _
  · exact s.othersStand_refl i

/-- The judgement writes the meter of its entry alone. -/
theorem State.judge_eq (i : Fin 256) (s : State) : s.judge i = { s with bookings := (s.judge i).bookings } := by
  unfold State.judge
  dsimp only
  repeat' split
  all_goals rfl

theorem State.judge_othersStand (i : Fin 256) (s : State) : s.othersStand i (s.judge i) := by
  unfold State.judge
  dsimp only
  repeat' split
  case isTrue.isTrue.isTrue | isTrue.isFalse.isTrue => exact s.modBooking_othersStand i _
  all_goals exact s.othersStand_refl i

/-- A judgement of a booking on air with no open span. -/
theorem State.judge_of_closed (onAir : s.bookings[i].state.onAirOrOverrun = true)
    (closed : s.bookings[i].meter.openSpan = none) : (s.judge i).bookings[i] =
      { s.bookings[i] with
        meter := { s.bookings[i].meter with openSpan := if s.deliverable i then none else some s.now } } := by
  cases carried : s.deliverable i with
  | true =>
    rw [State.judge_of_agreeing (by rw [carried, closed, Option.isNone_none]), if_pos rfl, ← closed]
  | false =>
    rw [State.judge_opens onAir carried closed, State.modMeter_same]
    rfl

/-- Deliverability reads the health records, the leg record and what the booking names. -/
theorem State.deliverable_congr {t : State} (health : t.health = s.health) (leg : t.legs[i] = s.legs[i])
    (mode : t.bookings[i].mode = s.bookings[i].mode) (main : t.bookings[i].main = s.bookings[i].main)
    (backup : t.bookings[i].backup = s.bookings[i].backup) : t.deliverable i = s.deliverable i := by
  simp only [State.deliverable, State.forcedOf, State.available, State.backupAvailable, State.healthOf, health, leg,
    mode, main, backup]

end Initial

/-! ### The booking on air -/

section OnAir

variable (i : Fin 256) (fresh : Bool) (s : State)

/-- ON_AIR entry before its notice writes its entry, its leg record, its windows, the use counts and the poster. -/
theorem State.airJudged_eq : s.airJudged i fresh =
    { s with
      bookings := (s.airJudged i fresh).bookings, legs := ((s.airing i fresh).setInitialLeg i).legs
      useCounts := (s.claimed i fresh).useCounts, windows := (s.airing i fresh).windows
      poster := ((s.claimed i fresh).lineChecked i).poster } := by
  have judged : s.airJudged i fresh =
      { (s.airing i fresh).setInitialLeg i with bookings := (s.airJudged i fresh).bookings } := State.judge_eq i _
  rw [judged, State.setInitialLeg_eq, State.airing_eq]

theorem State.airJudged_othersStand : s.othersStand i (s.airJudged i fresh) :=
  ((s.airing_othersStand i fresh).trans (State.setInitialLeg_othersStand i _)).trans (State.judge_othersStand i _)

theorem State.airing_setInitialLeg_booking :
    ((s.airing i fresh).setInitialLeg i).bookings[i] = s.bookings[i].lineChecked.aired s.now := by
  rw [State.setInitialLeg_eq, State.airing_booking]

/-- The entry on air, but for its meter. -/
theorem State.airJudged_booking : (s.airJudged i fresh).bookings[i] =
    { s.bookings[i].lineChecked.aired s.now with meter := (s.airJudged i fresh).bookings[i].meter } := by
  have judged : (s.airJudged i fresh).bookings[i] = { ((s.airing i fresh).setInitialLeg i).bookings[i] with
      meter := (s.airJudged i fresh).bookings[i].meter } := by
    unfold State.airJudged State.judge
    dsimp only
    repeat' split
    case isTrue.isTrue.isTrue | isTrue.isFalse.isTrue => rw [State.modMeter_same]
    all_goals rfl
  rw [State.airing_setInitialLeg_booking] at judged
  exact judged

/-- The leg record of a SWITCH booking on air (R93). -/
theorem State.airJudged_leg_of_switch (mode : s.bookings[i].mode = .switch) {l : Leg}
    (record : (s.claimed i fresh).legs[i] = some l) : (s.airJudged i fresh).legs[i] = some
      { l with
        active := some (l.forced.initial (s.available s.bookings[i].main) (s.backupAvailable s.bookings[i].backup))
        wtrExp := none } := by
  have entry := s.airing_booking i fresh
  have switch : (s.airing i fresh).bookings[i].mode = .switch := entry ▸ mode
  have claimed : (s.airing i fresh).legs[i] = some l := by rwa [State.airing_eq]
  have available : (s.airing i fresh).available = s.available := by rw [State.airing_eq]; rfl
  have backup : (s.airing i fresh).backupAvailable = s.backupAvailable := by rw [State.airing_eq]; rfl
  rw [State.airJudged_eq, State.setInitialLeg_of_switch switch claimed, State.putLeg_same, available, backup, entry]
  rfl

theorem State.airJudged_legs_of_not_switch (mode : s.bookings[i].mode ≠ .switch) :
    (s.airJudged i fresh).legs = s.legs := by
  have single : (s.airing i fresh).bookings[i].mode ≠ .switch := s.airing_booking i fresh ▸ mode
  rw [State.airJudged_eq, State.setInitialLeg_of_not_switch single, State.airing_eq,
    State.claimed_legs_of_not_switch i s fresh mode]

/-- The booking that enters ON_AIR opens a span where it is not deliverable (R101, R156). -/
theorem State.airJudged_meter (closed : s.bookings[i].meter.openSpan = none) :
    (s.airJudged i fresh).bookings[i].meter = { s.bookings[i].meter with
      openSpan := if (s.airJudged i fresh).deliverable i then none else some s.now } := by
  have entry := s.airing_setInitialLeg_booking i fresh
  have onAir : ((s.airing i fresh).setInitialLeg i).bookings[i].state.onAirOrOverrun = true := by rw [entry]; rfl
  have noSpan : ((s.airing i fresh).setInitialLeg i).bookings[i].meter.openSpan = none := by rw [entry]; exact closed
  have judged := State.judge_of_closed onAir noSpan
  have now : ((s.airing i fresh).setInitialLeg i).now = s.now := by
    rw [State.setInitialLeg_eq, State.airing_eq]
    rfl
  have deliverable : (s.airJudged i fresh).deliverable i = ((s.airing i fresh).setInitialLeg i).deliverable i := by
    have frame := State.judge_eq i ((s.airing i fresh).setInitialLeg i)
    have health : (s.airJudged i fresh).health = ((s.airing i fresh).setInitialLeg i).health :=
      (congrArg State.health frame :)
    have legs : (s.airJudged i fresh).legs = ((s.airing i fresh).setInitialLeg i).legs := (congrArg State.legs frame :)
    refine State.deliverable_congr health (congrArg (·[i]) legs) ?_ ?_ ?_ <;> rw [State.airJudged, judged]
  rw [deliverable, State.airJudged, judged, entry, now]
  rfl

variable (n : Nat)

theorem State.enterOnAir_armed :
    (s.enterOnAir i fresh n).bookings[i] = (s.airJudged i fresh).bookings[i].armed := by
  rw [State.enterOnAir_eq, State.modBooking_same, State.offer_bookings]

/-- The notice and the end expiry leave the deliverability as it was judged. -/
theorem State.enterOnAir_deliverable : (s.enterOnAir i fresh n).deliverable i = (s.airJudged i fresh).deliverable i := by
  have entry := s.enterOnAir_armed i fresh n
  have health : (s.enterOnAir i fresh n).health = (s.airJudged i fresh).health := by
    rw [State.enterOnAir_eq, State.modBooking_health, State.offer_health]
  have legs : (s.enterOnAir i fresh n).legs = (s.airJudged i fresh).legs := by
    rw [State.enterOnAir_eq, State.modBooking_legs, State.offer_legs]
  obtain ⟨mode, main, backup⟩ := (s.airJudged i fresh).bookings[i].armed_names
  exact State.deliverable_congr health (by rw [legs]) (by rw [entry, mode]) (by rw [entry, main])
    (by rw [entry, backup])

/-- The entry on air, but for its meter, with its end expiry armed (R116, Table 6-4). -/
theorem State.enterOnAir_booking : (s.enterOnAir i fresh n).bookings[i] =
    { s.bookings[i].lineChecked.aired s.now with
      endExp := some s.bookings[i].endE, meter := (s.airJudged i fresh).bookings[i].meter } := by
  rw [State.enterOnAir_armed, State.airJudged_booking]
  rfl

theorem State.enterOnAir_othersStand : s.othersStand i (s.enterOnAir i fresh n) := by
  rw [State.enterOnAir_eq]
  exact ((s.airJudged_othersStand i fresh).trans (State.offer_othersStand i _ _)).trans
    (State.modBooking_othersStand i _ Booking.armed)

/-- What ON_AIR entry leaves of the tables. -/
theorem State.enterOnAir_tables : (s.enterOnAir i fresh n).legs = (s.airJudged i fresh).legs ∧
    (s.enterOnAir i fresh n).windows = (s.airing i fresh).windows ∧
    (s.enterOnAir i fresh n).useCounts = (s.claimed i fresh).useCounts ∧
    (s.enterOnAir i fresh n).sources = s.sources ∧ (s.enterOnAir i fresh n).health = s.health ∧
    (s.enterOnAir i fresh n).calendar = s.calendar ∧ (s.enterOnAir i fresh n).settlements = s.settlements := by
  rw [State.enterOnAir_eq]
  refine ⟨?_, ?_, ?_, ?_, ?_, ?_, ?_⟩
  · rw [State.modBooking_legs, State.offer_legs]
  · rw [State.modBooking_windows, State.offer_windows, State.airJudged_eq]
  · rw [State.modBooking_useCounts, State.offer_useCounts, State.airJudged_eq]
  · rw [State.modBooking_sources, State.offer_sources, State.airJudged_eq]
  · rw [State.modBooking_health, State.offer_health, State.airJudged_eq]
  · rw [State.modBooking_calendar, State.offer_calendar, State.airJudged_eq]
  · rw [State.modBooking_settlements, State.offer_settlements, State.airJudged_eq]

/-! ### The notices (R114, R116) -/

/-- ON_AIR entry leaves what the booking was made of. -/
theorem Booking.aired_terms (b : Booking) (now : Nat) (m : Meter) :
    ({ b.lineChecked.aired now with meter := m } : Booking).gen = b.gen ∧
      ({ b.lineChecked.aired now with meter := m } : Booking).mode = b.mode ∧
      ({ b.lineChecked.aired now with meter := m } : Booking).main = b.main ∧
      ({ b.lineChecked.aired now with meter := m } : Booking).backup = b.backup ∧
      ({ b.lineChecked.aired now with meter := m } : Booking).endE = b.endE ∧
      ({ b.lineChecked.aired now with meter := m } : Booking).windows = b.windows :=
  ⟨rfl, rfl, rfl, rfl, rfl, rfl⟩

/-- The ON_AIR notice says what stood before the entry, and its leg and deliverability (R116 step 7). -/
theorem State.onAirNotice_airJudged : (s.airJudged i fresh).onAirNotice i n =
    { handle := s.handleOf i, mode := s.bookings[i].mode
      active := if s.bookings[i].mode = .switch then (s.airJudged i fresh).activeOf i else none
      deliverable := (s.airJudged i fresh).deliverable i, mainHealth := s.healthOf s.bookings[i].main
      backupHealth := s.healthOf? s.bookings[i].backup, closed := n, actStart := s.now
      endE := s.bookings[i].endE, windows := s.bookings[i].windows } := by
  have now : (s.airJudged i fresh).now = s.now := by rw [State.airJudged_eq]; rfl
  have healthOf : (s.airJudged i fresh).healthOf = s.healthOf := by rw [State.airJudged_eq]; rfl
  obtain ⟨gen, mode, main, backup, endE, windows⟩ :=
    s.bookings[i].aired_terms s.now (s.airJudged i fresh).bookings[i].meter
  rw [← State.airJudged_booking] at gen mode main backup endE windows
  simp only [State.onAirNotice, State.handleOf, State.healthOf?, now, healthOf, gen, mode, main, backup, endE, windows]

/-- An offer that the hold queue accepts. -/
theorem Poster.offer_of_room {p : Poster} (room : p.used + 5 ≤ 16) (plain : p.haltPlaced = false) (now : Nat)
    (body : ReportBody) : p.offer now body = { p with hold := p.hold ++ [{ created := now, body }] } := by
  rw [Poster.offer, if_pos (p.accepts_iff.2 ⟨room, plain⟩)]
  rfl

/-- Six free entries take the LINE_CHECK notice and the ON_AIR notice behind it. -/
theorem State.enterOnAir_poster (plain : s.poster.haltPlaced = false) (room : s.poster.used ≤ 10) :
    (s.enterOnAir i fresh n).poster = { s.poster with
      hold := s.poster.hold ++
        (if s.bookings[i].lineCheck = .done then []
          else [{ created := s.now, body := .lineCheck (s.lineCheckNotice i .start) }]) ++
        [{ created := s.now, body := .onAir ((s.airJudged i fresh).onAirNotice i n) }] } := by
  have claimed : ((s.claimed i fresh).lineChecked i).poster =
      if s.bookings[i].lineCheck = .done then s.poster
      else s.poster.offer s.now (.lineCheck (s.lineCheckNotice i .start)) := by
    rw [State.lineChecked_poster, State.claimed_eq]
    rfl
  have now : (s.airJudged i fresh).now = s.now := by rw [State.airJudged_eq]; rfl
  have poster : (s.airJudged i fresh).poster = ((s.claimed i fresh).lineChecked i).poster := by rw [State.airJudged_eq]
  have told : (s.enterOnAir i fresh n).poster =
      (s.airJudged i fresh).poster.offer (s.airJudged i fresh).now (.onAir ((s.airJudged i fresh).onAirNotice i n)) := by
    rw [State.enterOnAir_eq, State.modBooking_poster, State.offer_poster]
  rw [told, now, poster, claimed]
  split
  · rw [Poster.offer_of_room (by omega) plain, List.append_nil]
  · rw [Poster.offer_of_room (p := s.poster) (by omega) plain]
    refine Poster.offer_of_room (p := { s.poster with hold := s.poster.hold ++ [_] }) ?_ plain _ _
    simp only [Poster.used, List.length_append, List.length_singleton] at room ⊢
    omega

end OnAir

/-- Settles O46: the entry, the tables and the two notices, each from the step of R116 that writes it. -/
theorem onAirEntryRoutesTheWindows : Obligations.OnAirEntryRoutesTheWindows := by
  intro s i fresh n b now u closed line
  have entry : u.bookings[i] = _ := s.enterOnAir_booking i fresh n
  have waited : b.lineChecked.lineExp = none := by
    by_cases done : b.lineCheck = .done
    · exact (if_pos done).trans (line.resolve_left (not_not_intro done))
    · exact if_neg done
  have deliverable : u.deliverable i = (s.airJudged i fresh).deliverable i := s.enterOnAir_deliverable i fresh n
  obtain ⟨legs, windows, useCounts, sources, health, calendar, settlements⟩ := s.enterOnAir_tables i fresh n
  refine ⟨?_, s.enterOnAir_othersStand i fresh n, fun w named => ?_, fun w unnamed => ?_, fun mode => ?_,
    fun mode l record => ?_, ?_, ?_, fun plain room => ?_, (s.enterOnAir_step i fresh n).tablesOnly, sources, health,
    calendar, settlements⟩
  · rw [entry, State.airJudged_meter i fresh s closed, ← deliverable, Booking.aired, waited]
    rfl
  · rw [windows, State.airing_window, if_pos named]
    rfl
  · rw [windows, State.airing_window, if_neg unnamed]
  · rw [legs, State.airJudged_legs_of_not_switch i fresh s mode]
  · rw [legs, State.airJudged_leg_of_switch i fresh s mode ((s.claimed_leg_of_switch i fresh mode).trans record)]
    rfl
  · rintro rfl
    exact useCounts
  · rintro rfl distinct x
    rw [useCounts]
    exact raiseUse_sources distinct s.useCounts x
  · have notice : (s.airJudged i fresh).onAirNotice i n =
        { handle := { index := i, gen := b.gen }, mode := b.mode
          active := if b.mode = .switch then u.activeOf i else none, deliverable := u.deliverable i
          mainHealth := s.health[b.main].state, backupHealth := b.backup.map fun x => s.health[x].state, closed := n
          actStart := now, endE := b.endE, windows := b.windows } := by
      have active : u.activeOf i = (s.airJudged i fresh).activeOf i := by rw [State.activeOf, legs, State.activeOf]
      rw [deliverable, active]
      exact State.onAirNotice_airJudged i fresh s n
    rw [s.enterOnAir_poster i fresh n plain room, notice]
    rfl

end Sys2Proof.Machine

namespace Sys2Proof.Machine

/-! ## What every step keeps of the tables

The tables of the sources, the bookings and the windows change at few places. A property of them that each of those
places keeps, and that cleared tables have, is kept by every step from lawful settlements. -/

/-- The tables of a state. -/
def State.tables (s : State) : Vector Source 48 × Vector Health 48 × Vector (Option Leg) 256 × Vector Booking 256 ×
    Vector (List CalItem) 32 × Vector Nat 48 × Vector Window 32 × List (Fin 256) :=
  (s.sources, s.health, s.legs, s.bookings, s.calendar, s.useCounts, s.windows, s.settlements)

/-- A property of the tables that every place where they change keeps. BOOK rests on the law of the settlement list,
so that a FREE entry waits for no settlement. -/
structure TableInvariant (P : State → Prop) : Prop where
  frame : ∀ {s t : State}, P s → t.tables = s.tables → P t
  judged : ∀ {s : State} (src : Fin 48) (k : Nat) (v : Verdict), s.sources[src].enabled = true → P s →
    P (s.judged src k v)
  silence : ∀ {s : State} (i : Fin 48), P s → P (s.takeSilence i)
  interval : ∀ {s : State}, P s → P s.clearIntervals
  read : ∀ {s : State} (t : Txn) (w : Fin 32) (k off : Nat), P s → P (s.windowRead t w k off)
  define : ∀ {s : State} (o : SourceOrder), s.sourceInUse o = false → P s → P (s.defineSource o)
  clear : ∀ {s : State} (i : Fin 48), P s → P (s.clearSource i)
  forceLeg : ∀ {s : State} (i : Fin 256) (f : ForcedLeg), P s → P (s.forceLeg i f)
  book : ∀ {s : State} (e : List Byte) (n : Nat), s.settlementLaw → P s → P (bookOrder e n s).1
  extend : ∀ {s : State} (e : List Byte) (n : Nat), P s → P (extendOrder e n s).1
  release : ∀ {s : State} (e : List Byte) (n : Nat), P s → P (releaseOrder e n s).1
  cancel : ∀ {s : State} (e : List Byte) (n : Nat), P s → P (cancelOrder e n s).1
  window : ∀ {s : State} (e : List Byte) (n : Nat), P s → P (defineWindowOrder e n s).1
  house : ∀ {s : State} (new : Nat), s.allFree = true → P s → P (s.setHouse new)
  halt : ∀ {s : State}, P s → P s.haltBookings
  settle : ∀ {s : State}, P s → P s.settlementEnter
  restore : ∀ {s : State} (i : Fin 256), P s → P (s.takeRestore i)
  preroll : ∀ {s : State} (i : Fin 256), P s → P (s.takePreroll i)
  lineWait : ∀ {s : State} (i : Fin 256), P s → P (s.takeLineWait i)
  start : ∀ {s : State} (i : Fin 256), P s → P (s.takeStart i)
  finish : ∀ {s : State} (i : Fin 256), P s → P (s.takeEnd i)
  cap : ∀ {s : State} (i : Fin 256), P s → P (s.takeCap i)
  reset : ∀ {t : State}, t.tables = State.reset.tables → P t
  cleared : ∀ {s t : State} (d : Nat), t.tables = (s.clearTables d).tables → P t

/-! ### Changes outside the tables -/

theorem State.foldl_tables {α : Type} (f : State → α → State) (h : ∀ s a, (f s a).tables = s.tables)
    (l : List α) (s : State) : (l.foldl f s).tables = s.tables := by
  induction l generalizing s with
  | nil => rfl
  | cons a l ih => exact (ih (f s a)).trans (h s a)

theorem State.modTime_tables (f : TimeBase → TimeBase) (s : State) : (s.modTime f).tables = s.tables := rfl

theorem State.offerRates_tables (s : State) : s.offerRates.tables = s.tables :=
  State.foldl_tables (fun s (i : Fin 48) => s.offer (s.sources[i].rateNotice i)) (fun _ _ => rfl) _ _

theorem State.refuse_tables (t : Txn) (kind : StrayKind) (s : State) : (s.refuse t kind).tables = s.tables := by
  unfold State.refuse
  dsimp only
  split <;> rfl

theorem State.handOff_tables (word : WatchedWord) (cls : InitiatorClass) (value : Word32) (s : State) :
    (s.handOff word cls value).tables = s.tables := by
  have tail : (s.tailWrite value).tables = s.tables := by
    unfold State.tailWrite
    split <;> rfl
  have consumer : (s.consumerWrite value).tables = s.tables := by
    unfold State.consumerWrite
    dsimp only
    split <;> rfl
  unfold State.handOff
  cases word <;> dsimp only <;> split
  case start.isTrue | start.isFalse | orderTail.isFalse | reportConsumer.isFalse => rfl
  case orderTail.isTrue => exact tail
  case reportConsumer.isTrue => exact consumer

/-! ### Every command keeps a property of the tables -/

namespace TableInvariant

variable {P : State → Prop} (inv : TableInvariant P)

include inv

theorem ingress (src : Fin 48) (k off : Nat) (bytes : List (Byte × Bool)) {s : State} (hs : P s) :
    P (s.ingress src k off bytes) := by
  have arrives : ∀ hdr, P (s.arrive src k hdr) := by
    intro hdr
    unfold State.arrive
    dsimp only
    split
    · next enabled => exact inv.judged src k _ enabled hs
    · exact hs
  unfold State.ingress
  split
  · exact hs
  · exact arrives _
  · exact arrives _

theorem accept (t : Txn) {s : State} (hs : P s) : P (s.accept t) := by
  unfold State.accept
  dsimp only
  split
  · split
    · exact inv.frame hs rfl
    · exact inv.ingress _ _ _ _ (inv.frame hs rfl)
    · exact inv.read _ _ _ _ hs
    · exact inv.frame hs (s.refuse_tables _ _)
  · exact inv.frame hs rfl

theorem present (t : Txn) {s : State} (hs : P s) : P (s.present t) := by
  unfold State.present
  split
  · exact inv.frame hs rfl
  · exact inv.accept t hs

theorem takeHeld {s : State} (hs : P s) : P s.takeHeld := by
  unfold State.takeHeld
  split
  · exact hs
  · split
    · exact hs
    · exact inv.accept _ (inv.frame hs rfl)

theorem takesHeld (n : Nat) {s : State} (hs : P s) : P (s.takesHeld n) := by
  induction n generalizing s with
  | zero => exact hs
  | succ n ih => exact ih (inv.takeHeld hs)

theorem issueForwarded {s : State} (hs : P s) : P s.issueForwarded := by
  unfold State.issueForwarded
  split
  · exact hs
  · refine inv.takesHeld _ (inv.frame (inv.frame hs rfl) (State.foldl_tables _ (fun u w => ?_) _ _))
    split
    · rfl
    · exact u.handOff_tables _ _ _

theorem issueOwn {s : State} (hs : P s) : P s.issueOwn := by
  unfold State.issueOwn
  split
  · exact hs
  · exact inv.frame hs rfl

theorem settlementsEnter (n : Nat) {s : State} (hs : P s) : P (s.settlementsEnter n) := by
  induction n generalizing s with
  | zero => exact hs
  | succ n ih => exact ih (inv.settle hs)

theorem reportWritten (r : Report) (x : Posting) (okay : Bool) {s : State} (hs : P s) :
    P (s.reportWritten r x okay) := by
  have answered : P (s.writeAnswered r x okay) := by
    cases okay <;> exact inv.frame hs rfl
  have drained : P (s.writeAnswered r x okay).drainSettlements := inv.settlementsEnter _ answered
  rw [State.reportWritten_eq]
  split
  · exact inv.frame drained rfl
  · exact drained

theorem settingsLoaded (resp : Resp) {s : State} (hs : P s) : P (s.settingsLoaded resp) := by
  unfold State.settingsLoaded
  split
  · exact inv.frame hs rfl
  · split
    · exact inv.frame hs rfl
    · exact inv.cleared (s := s) _ rfl

theorem passiveIfAnswered {s : State} (hs : P s) : P s.passiveIfAnswered := by
  unfold State.passiveIfAnswered
  split
  · exact inv.cleared (s := s) 0 rfl
  · exact hs

/-! ### Orders -/

theorem runOrder {body : Nat → State → State × OrderReply} {mtag : Nat} {s : State}
    (hb : ∀ n, P (body n (s.dropResponse mtag)).1) (code : Nat) (entry : List Byte) (hs : P s) :
    P (s.runOrder code mtag entry body) := by
  unfold State.runOrder
  split
  · exact hs
  · split
    · dsimp only
      split
      · exact inv.frame (hb _) rfl
      · exact inv.frame hs rfl
    · exact hs

theorem defineSourceOrder (e : List Byte) (n : Nat) {s : State} (hs : P s) : P (Machine.defineSourceOrder e n s).1 := by
  unfold Machine.defineSourceOrder
  split
  · exact hs
  · split
    · exact hs
    · next unused => exact inv.define _ (Bool.eq_false_iff.2 unused) hs

theorem clearOrder (e : List Byte) (n : Nat) {s : State} (hs : P s) : P (Machine.clearOrder e n s).1 := by
  unfold Machine.clearOrder
  split
  · exact hs
  · split
    · exact inv.clear _ hs
    · exact hs

theorem forceLegOrder (e : List Byte) (n : Nat) {s : State} (hs : P s) : P (Machine.forceLegOrder e n s).1 := by
  unfold Machine.forceLegOrder
  dsimp only
  repeat' split
  case h_2.isFalse.isTrue => exact inv.forceLeg _ _ hs
  all_goals exact hs

theorem tariffOrder (e : List Byte) (n : Nat) {s : State} (hs : P s) : P (Machine.tariffOrder e n s).1 := by
  unfold Machine.tariffOrder
  split
  · exact hs
  · exact inv.frame hs rfl

theorem setTimeOrder (e : List Byte) (n : Nat) {s : State} (hs : P s) : P (Machine.setTimeOrder e n s).1 := by
  unfold Machine.setTimeOrder
  dsimp only
  split
  · exact hs
  · split
    · exact hs
    · next free => exact inv.house _ (by simpa using free) hs

/-! ### House time -/

theorem takeRate {s : State} (hs : P s) : P s.takeRate := by
  rcases s.takeRate_cases with ⟨_, same⟩ | ⟨t, _, _, taken⟩
  · rwa [same]
  · rw [taken]
    exact inv.interval (inv.frame (inv.frame hs rfl) (State.offerRates_tables _))

theorem tick {s : State} (hs : P s) : P s.tick := by
  have taken : P s.takeDue := State.takeDue_induct (P := P) (fun _ h => inv.takeRate h) (fun _ i => inv.silence i)
    (fun _ i => inv.restore i) (fun _ i => inv.preroll i) (fun _ i => inv.lineWait i) (fun _ i => inv.start i)
    (fun _ i => inv.finish i) (fun _ i => inv.cap i) s hs
  rw [State.tick_eq]
  exact inv.frame taken (State.modTime_tables _ _)

theorem edge {s : State} (hs : P s) : P s.edge := by
  unfold State.edge
  split
  · exact inv.frame hs rfl
  · exact inv.tick hs

/-! ### The commands -/

theorem execMemoryPortIssue {s : State} (hs : P s) : ∃ t, Machine.execMemoryPortIssue s = .next t ∧ P t := by
  refine ⟨_, rfl, ?_⟩
  split
  · exact hs
  · exact inv.issueForwarded hs
  · exact inv.issueOwn hs

theorem execMemoryResponse (mtag : Nat) (resp : Resp) {s : State} (hs : P s) :
    ∃ t, Machine.execMemoryResponse mtag resp s = .next t ∧ P t := by
  refine ⟨_, rfl, ?_⟩
  repeat' split
  case h_2 => exact inv.frame hs rfl
  all_goals exact hs

theorem execOwnTrafficPlace {s : State} (hs : P s) : ∃ t, Machine.execOwnTrafficPlace s = .next t ∧ P t := by
  refine ⟨_, rfl, ?_⟩
  repeat' split
  case h_2.isTrue => exact inv.frame hs rfl
  all_goals exact hs

theorem execSettingsLoadResponse (mtag : Nat) (resp : Resp) {s : State} (hs : P s) :
    ∃ t, Machine.execSettingsLoadResponse mtag resp s = .next t ∧ P t := by
  refine ⟨_, rfl, ?_⟩
  repeat' split
  case h_1.isTrue => exact inv.settingsLoaded resp (inv.frame hs rfl)
  all_goals exact hs

theorem execOrderTake {s : State} (hs : P s) : ∃ t, Machine.execOrderTake s = .next t ∧ P t := by
  refine ⟨_, rfl, ?_⟩
  split
  · exact inv.frame hs rfl
  · exact hs

theorem execOrderFetchFault (mtag : Nat) {s : State} (hs : P s) :
    ∃ t, Machine.execOrderFetchFault mtag s = .next t ∧ P t := by
  refine ⟨_, rfl, ?_⟩
  split
  · exact hs
  · exact inv.frame hs rfl

theorem execUnknownOrderKind (mtag : Nat) (entry : List Byte) {s : State} (hs : P s) :
    ∃ t, Machine.execUnknownOrderKind mtag entry s = .next t ∧ P t := by
  refine ⟨_, rfl, ?_⟩
  repeat' split
  case h_2.isFalse => exact inv.frame hs rfl
  all_goals exact hs

theorem execHalt (mtag : Nat) (entry : List Byte) {s : State} (hs : P s) :
    ∃ t, Machine.execHalt mtag entry s = .next t ∧ P t := by
  refine ⟨_, rfl, ?_⟩
  repeat' split
  case h_2.isTrue.isTrue => exact inv.halt (inv.frame hs rfl)
  case h_2.isTrue.isFalse => exact inv.frame hs rfl
  all_goals exact hs

theorem execHaltCompletion {s : State} (hs : P s) : ∃ t, Machine.execHaltCompletion s = .next t ∧ P t := by
  refine ⟨_, rfl, ?_⟩
  repeat' split
  case h_2.isTrue => exact inv.frame hs rfl
  all_goals exact hs

theorem execReportWriteBegin {s : State} (hs : P s) : ∃ t, Machine.execReportWriteBegin s = .next t ∧ P t := by
  refine ⟨_, rfl, ?_⟩
  repeat' split
  case h_1.isTrue => exact inv.frame hs rfl
  all_goals exact hs

theorem execReportWriteResponse (mtag : Nat) (okay : Bool) {s : State} (hs : P s) :
    ∃ t, Machine.execReportWriteResponse mtag okay s = .next t ∧ P t := by
  refine ⟨_, rfl, ?_⟩
  repeat' split
  case h_1 => exact inv.reportWritten _ _ _ (inv.frame hs rfl)
  all_goals exact hs

theorem execHeadWordWriteResponse (mtag : Nat) (okay : Bool) {s : State} (hs : P s) :
    ∃ t, Machine.execHeadWordWriteResponse mtag okay s = .next t ∧ P t := by
  refine ⟨_, rfl, ?_⟩
  split
  · exact inv.passiveIfAnswered (inv.frame hs rfl)
  · exact hs

theorem execStatusWordWriteResponse (mtag : Nat) (okay : Bool) {s : State} (hs : P s) :
    ∃ t, Machine.execStatusWordWriteResponse mtag okay s = .next t ∧ P t := by
  refine ⟨_, rfl, ?_⟩
  split
  · exact inv.passiveIfAnswered (inv.frame hs rfl)
  · exact inv.frame hs rfl
  · exact hs

/-- Every command keeps a property of the tables. -/
theorem exec (c : Instr) {s : State} (settlement : s.settlementLaw) (hs : P s) :
    ∃ t, Machine.exec c s = .next t ∧ P t := by
  have whenRunning : ∀ {t}, P t → P (if s.time.running then t else s) := by
    intro t ht
    split
    · exact ht
    · exact hs
  have dropped : ∀ mtag, P (s.dropResponse mtag) := fun _ => inv.frame hs rfl
  have order : ∀ {body : Nat → State → State × OrderReply} {code mtag : Nat} {entry : List Byte},
      (∀ n, P (body n (s.dropResponse mtag)).1) → P (s.runOrder code mtag entry body) :=
    fun hb => inv.runOrder hb _ _ hs
  cases c with
  | resetAssert => exact ⟨_, rfl, inv.reset rfl⟩
  | resetRelease cpsel =>
    refine ⟨_, rfl, ?_⟩
    split
    · exact inv.takesHeld _ (inv.frame hs rfl)
    · exact hs
  | houseTick => exact ⟨_, rfl, whenRunning (inv.tick hs)⟩
  | systemPortTransaction t => exact ⟨_, rfl, inv.present t hs⟩
  | ingressWrite t => exact ⟨_, rfl, inv.present t hs⟩
  | headerRead t => exact ⟨_, rfl, inv.present t hs⟩
  | payloadRead t => exact ⟨_, rfl, inv.present t hs⟩
  | memoryPortIssue => exact inv.execMemoryPortIssue hs
  | startWrite value =>
    refine ⟨_, rfl, ?_⟩
    split
    · exact hs
    · exact inv.frame hs (s.handOff_tables _ _ _)
  | orderTailWrite cls value => exact ⟨_, rfl, inv.frame hs (s.handOff_tables _ _ _)⟩
  | reportConsumerWrite cls value => exact ⟨_, rfl, inv.frame hs (s.handOff_tables _ _ _)⟩
  | memoryResponse mtag resp => exact inv.execMemoryResponse mtag resp hs
  | settingsLoadResponse mtag resp => exact inv.execSettingsLoadResponse mtag resp hs
  | ownTrafficPlace => exact inv.execOwnTrafficPlace hs
  | orderTake => exact inv.execOrderTake hs
  | orderFetchFault mtag => exact inv.execOrderFetchFault mtag hs
  | defineSource mtag entry => exact ⟨_, rfl, order fun n => inv.defineSourceOrder entry n (dropped mtag)⟩
  | clear mtag entry => exact ⟨_, rfl, order fun n => inv.clearOrder entry n (dropped mtag)⟩
  | forceLeg mtag entry => exact ⟨_, rfl, order fun n => inv.forceLegOrder entry n (dropped mtag)⟩
  | tariff mtag entry => exact ⟨_, rfl, order fun n => inv.tariffOrder entry n (dropped mtag)⟩
  | book mtag entry => exact ⟨_, rfl, order fun n => inv.book entry n settlement (dropped mtag)⟩
  | extend mtag entry => exact ⟨_, rfl, order fun n => inv.extend entry n (dropped mtag)⟩
  | release mtag entry => exact ⟨_, rfl, order fun n => inv.release entry n (dropped mtag)⟩
  | cancel mtag entry => exact ⟨_, rfl, order fun n => inv.cancel entry n (dropped mtag)⟩
  | meter mtag entry => exact ⟨_, rfl, order fun n => meterOrder_same entry n _ ▸ dropped mtag⟩
  | defineWindow mtag entry => exact ⟨_, rfl, order fun n => inv.window entry n (dropped mtag)⟩
  | setTime mtag entry => exact ⟨_, rfl, order fun n => inv.setTimeOrder entry n (dropped mtag)⟩
  | halt mtag entry => exact inv.execHalt mtag entry hs
  | settlementEntry => exact ⟨_, rfl, inv.settle hs⟩
  | reportWriteBegin => exact inv.execReportWriteBegin hs
  | reportWriteResponse mtag okay => exact inv.execReportWriteResponse mtag okay hs
  | headWordWriteResponse mtag okay => exact inv.execHeadWordWriteResponse mtag okay hs
  | statusWordWriteResponse mtag okay => exact inv.execStatusWordWriteResponse mtag okay hs
  | haltCompletion => exact inv.execHaltCompletion hs
  | rateIntervalExpiry => exact ⟨_, rfl, inv.takeRate hs⟩
  | silenceExpiry src => exact ⟨_, rfl, inv.silence src hs⟩
  | waitToRestoreExpiry b => exact ⟨_, rfl, inv.restore b hs⟩
  | prerollExpiry b => exact ⟨_, rfl, inv.preroll b hs⟩
  | lineCheckWaitExpiry b => exact ⟨_, rfl, inv.lineWait b hs⟩
  | startExpiry b => exact ⟨_, rfl, inv.start b hs⟩
  | endExpiry b => exact ⟨_, rfl, inv.finish b hs⟩
  | overrunCapExpiry b => exact ⟨_, rfl, inv.cap b hs⟩
  | refclkEdge => exact ⟨_, rfl, whenRunning (inv.edge hs)⟩
  | unknownOrderKind mtag entry => exact inv.execUnknownOrderKind mtag entry hs

/-- Every step keeps a property of the tables. -/
theorem step {s t : State} (h : Machine.step s = .next t) (settlement : s.settlementLaw) (hs : P s) : P t := by
  unfold Machine.step at h
  split at h
  · cases h
    exact hs
  · next c rest _ =>
    obtain ⟨u, next, kept⟩ := inv.exec c (s := { s with pending := rest }) settlement (inv.frame hs rfl)
    cases next.symm.trans h
    exact kept

end TableInvariant

end Sys2Proof.Machine

namespace Sys2Proof.Machine

/-! ## Leg records and expiries follow the states (R92, Table 6-4) -/

/-! ### One entry -/

/-- A leg record and the booking of its entry: the record stands exactly as the mode and the state say, and the
expiries are those the state arms. -/
structure EntryOk (l : Option Leg) (b : Booking) : Prop where
  leg : l.isSome ↔ b.mode = .switch ∧ b.state.holdsSources
  active : ∀ x, l = some x → (x.active.isSome ↔ b.state.onAirOrOverrun)
  expiries : b.expiriesOk

/-- A booking that is live and not on air: no end, no cap, and no leg record but that of a SWITCH booking. -/
structure Unaired (l : Option Leg) (b : Booking) : Prop where
  live : b.state.live = true
  finish : b.endExp = none
  cap : b.capExp = none
  line : b.lineCheck = .done → b.lineExp = none
  leg : b.mode ≠ .switch → l = none

section Entry

variable {l : Option Leg} {b : Booking}

theorem Booking.expiriesOk.arms (h : b.expiriesOk) : b.ArmsOk := by
  obtain ⟨preroll, start, _, finish, _, cap, line, _⟩ := h
  refine ⟨preroll.1, line.1, start.1, fun armed => ?_, fun armed => ?_⟩
  · by_contra other
    rw [finish other] at armed
    cases armed
  · by_contra other
    rw [cap other] at armed
    cases armed

/-- Without a record the entry is not one of a SWITCH booking that holds its sources. -/
theorem EntryOk.of_none (holds : b.state.holdsSources = false) (expiries : b.expiriesOk) : EntryOk none b where
  leg := by simp [holds]
  active := nofun
  expiries := expiries

theorem EntryOk.leg_eq_none (h : EntryOk l b) (holds : b.state.holdsSources = false) : l = none := by
  rw [← Option.not_isSome_iff_eq_none, h.leg, holds]
  simp

/-- A record of the same presence and the same activity, and a booking of the same mode that holds its sources and is
on air as before. -/
theorem EntryOk.of_shape (h : EntryOk l b) {l' : Option Leg} {b' : Booking}
    (shape : l'.map (fun x => x.active.isSome) = l.map fun x => x.active.isSome) (mode : b'.mode = b.mode)
    (holds : b'.state.holdsSources = b.state.holdsSources) (onAir : b'.state.onAirOrOverrun = b.state.onAirOrOverrun)
    (expiries : b'.expiriesOk) : EntryOk l' b' := by
  obtain ⟨leg, active, _⟩ := h
  cases l <;> cases l'
  case none.none => exact ⟨by rwa [mode, holds], nofun, expiries⟩
  case some.some x y =>
    have same : y.active.isSome = x.active.isSome := Option.some.inj shape
    refine ⟨by rwa [mode, holds], fun _ record => ?_, expiries⟩
    cases record
    rw [onAir, ← active x rfl, same]
  all_goals cases shape

theorem EntryOk.closed (i : Fin 256) (r : EndReason) (w : Bool) (now : Nat) : EntryOk none (b.closed i r w now) := by
  refine .of_none rfl ⟨by simp [Booking.closed], by simp [Booking.closed], nofun, fun _ => rfl, nofun, fun _ => rfl,
    ?_, ?_⟩ <;> by_cases waits : b.lineCheck = .waiting <;> simp [Booking.closed, waits]

/-- An entry that has settled has no record and no expiry, and keeps none. -/
theorem EntryOk.freed (h : EntryOk l b) (closed : b.state.live = false) : EntryOk l b.freed := by
  obtain ⟨preroll, start, _, finish, _, cap, line, waits⟩ := h.expiries
  have holds : b.state.holdsSources = false := by
    rcases (BookingState.live_eq_false_iff _).1 closed with state | state <;> rw [state] <;> rfl
  have differs : ∀ {x : BookingState}, x.live = true → b.state ≠ x := fun live same => by
    rw [same, live] at closed
    cases closed
  rw [h.leg_eq_none holds]
  refine .of_none rfl ⟨iff_of_false (fun armed => differs rfl (preroll.1 armed)) nofun,
    iff_of_false (fun armed => differs rfl (start.1 armed)) nofun, nofun, fun _ => finish (differs rfl), nofun,
    fun _ => cap (differs rfl), line, fun w => absurd (waits w) (differs rfl)⟩

/-- An entry PENDING or in PREROLL is not on air. -/
theorem EntryOk.unaired (h : EntryOk l b) (state : b.state = .pending ∨ b.state = .preroll) : Unaired l b := by
  obtain ⟨_, _, _, finish, _, cap, line, _⟩ := h.expiries
  have notOnAir : b.state ≠ .onAir := by rcases state with s | s <;> rw [s] <;> decide
  have notOver : b.state ≠ .overrun := by rcases state with s | s <;> rw [s] <;> decide
  have live : b.state.live = true := by rcases state with s | s <;> rw [s] <;> rfl
  refine ⟨live, finish notOnAir, cap notOver, fun done => ?_, fun mode => ?_⟩
  · rw [← Option.not_isSome_iff_eq_none, line, done]
    decide
  · rw [← Option.not_isSome_iff_eq_none, h.leg]
    exact fun both => mode both.1

theorem Unaired.of_accepted (b : Booking) (o : BookOrder) (start : Nat) (t : Tariff) :
    Unaired none (b.accepted o start t) := ⟨rfl, rfl, rfl, fun _ => rfl, fun _ => rfl⟩

/-- PENDING with the pre-roll expiry armed. -/
theorem EntryOk.pending {e : Nat} (state : b.state = .pending) (start : b.startExp = none) (finish : b.endExp = none)
    (cap : b.capExp = none) (line : b.lineExp = none) (check : b.lineCheck = .idle) :
    EntryOk none { b with prerollExp := some e } := by
  refine .of_none (by rw [state]; rfl) ⟨iff_of_true rfl state, ?_, ?_, fun _ => finish, ?_, fun _ => cap, ?_, ?_⟩ <;>
    simp [state, start, line, check]

/-- PREROLL, with a line check that has begun (R112, R113). -/
theorem Unaired.prerolled (h : Unaired l b) {l' : Option Leg} (leg : l'.isSome ↔ b.mode = .switch)
    (active : ∀ x, l' = some x → x.active = none) {check : LineCheckState} {e : Option Nat}
    (line : e.isSome ↔ check = .waiting) : EntryOk l' { b with
      state := .preroll, prerollExp := none, startExp := some b.startS, lineCheck := check, lineExp := e } where
  leg := leg.trans (by simp [BookingState.holdsSources])
  active x same := by simp [active x same, BookingState.onAirOrOverrun]
  expiries := ⟨by simp, by simp, nofun, fun _ => h.finish, nofun, fun _ => h.cap, line, fun _ => rfl⟩

/-- ON_AIR, with the end expiry armed (R116). -/
theorem Unaired.aired (h : Unaired l b) (preroll : b.prerollExp = none) {l' : Option Leg}
    (leg : l'.isSome ↔ b.mode = .switch) (active : ∀ x, l' = some x → x.active.isSome) (now : Nat) (m : Meter) :
    EntryOk l' { b.lineChecked.aired now with endExp := some b.endE, meter := m } where
  leg := leg.trans (by simp [Booking.aired, Booking.lineChecked, BookingState.holdsSources])
  active x same := by simp [active x same, Booking.aired, BookingState.onAirOrOverrun]
  expiries := by
    have line : (if b.lineCheck = .done then b.lineExp else none) = none := by
      split
      · next done => exact h.line done
      · rfl
    simp [Booking.expiriesOk, Booking.aired, Booking.lineChecked, preroll, h.cap, line]

/-- OVERRUN follows ON_AIR with the cap in place of the end (R117). -/
theorem EntryOk.overrun (h : EntryOk l b) (onAir : b.state = .onAir) :
    EntryOk l { b with state := .overrun, endExp := none, capExp := some (b.endE + b.maxOver) } := by
  obtain ⟨preroll, start, _, _, _, _, line, waits⟩ := h.expiries
  simp only [onAir] at preroll start waits
  exact h.of_shape rfl rfl (by rw [onAir]; rfl) (by rw [onAir]; rfl) ⟨by simpa using preroll, by simpa using start,
    nofun, fun _ => rfl, fun _ => rfl, fun other => absurd rfl other, line, fun w => nomatch waits w⟩

/-- A new planned end moves the end or the cap with it (R122). -/
theorem EntryOk.extended (h : EntryOk l b) (e now : Nat) : EntryOk l (b.extended e now) := by
  obtain ⟨preroll, start, _, finish, _, cap, line, waits⟩ := h.expiries
  cases state : b.state <;> simp only [state] at preroll start finish cap <;> simp only [Booking.extended, state]
  case onAir =>
    have done : b.lineCheck ≠ .waiting := fun w => nomatch state.symm.trans (waits w)
    exact h.of_shape rfl rfl (by rw [state]) (by rw [state]) ⟨by simpa using preroll, by simpa using start,
      fun _ => rfl, fun other => absurd rfl other, nofun, fun _ => cap nofun, line, fun w => absurd w done⟩
  case overrun =>
    have done : b.lineCheck ≠ .waiting := fun w => nomatch state.symm.trans (waits w)
    split
    · exact h.of_shape rfl rfl (by rw [state]; rfl) (by rw [state]; rfl) ⟨by simpa using preroll,
        by simpa using start, fun _ => rfl, fun other => absurd rfl other, nofun, fun _ => rfl, line,
        fun w => absurd w done⟩
    · exact h.of_shape rfl rfl (by rw [state]) (by rw [state]) ⟨by simpa using preroll, by simpa using start, nofun,
        fun _ => finish nofun, fun _ => rfl, fun other => absurd rfl other, line, fun w => absurd w done⟩
  all_goals
    exact h.of_shape rfl rfl (by rw [state]) (by rw [state]) ⟨by simpa using preroll, by simpa using start, nofun,
      fun _ => finish nofun, nofun, fun _ => cap nofun, line, fun w => state.symm.trans (waits w)⟩

theorem Booking.extended_live (b : Booking) (e now : Nat) : (b.extended e now).state.live = b.state.live := by
  cases state : b.state <;> simp only [Booking.extended, state]
  case overrun => split <;> rfl

/-- A FREE entry arms nothing that could move with house time (R55, R56). -/
theorem EntryOk.shifted (h : EntryOk l b) (free : b.state = .free) (f : Nat → Nat) :
    EntryOk (l.map fun r => { r with wtrExp := r.wtrExp.map f }) (b.shift f) := by
  obtain ⟨preroll, start, _, finish, _, cap, line, waits⟩ := h.expiries
  rw [h.leg_eq_none (by rw [free]; rfl)]
  refine .of_none (by simp [Booking.shift, free, BookingState.holdsSources]) ?_
  simp only [free] at preroll start finish cap waits
  simp only [Booking.expiriesOk, Booking.shift, free, finish nofun, cap nofun, Option.isSome_map]
  exact ⟨preroll, start, nofun, fun _ => rfl, nofun, fun _ => rfl, line, waits⟩

theorem EntryOk.reset (g : Byte) : EntryOk none (Booking.reset g) :=
  .of_none rfl ⟨by simp [Booking.reset], by simp [Booking.reset], nofun, fun _ => rfl, nofun, fun _ => rfl,
    by simp [Booking.reset], nofun⟩

end Entry

/-! ### The tables -/

/-- A property of every entry, with the settlement list of closed bookings alone. -/
structure State.Entries (P : Fin 256 → Option Leg → Booking → Prop) (s : State) : Prop where
  entries : ∀ i : Fin 256, P i s.legs[i] s.bookings[i]
  closed : ∀ i ∈ s.settlements, s.bookings[i].state.live = false

/-- The leg records and the expiries of every entry follow its state. -/
abbrev State.EntryLaw (s : State) : Prop := s.Entries fun _ => EntryOk

/-- The entry law of every entry but one, which has no leg record. -/
def EntryOkBut (i j : Fin 256) (l : Option Leg) (b : Booking) : Prop := if j = i then l = none else EntryOk l b

theorem entryOkBut_same {i : Fin 256} {l : Option Leg} {b : Booking} : EntryOkBut i i l b ↔ l = none := by
  simp [EntryOkBut]

theorem entryOkBut_other {i j : Fin 256} (other : j ≠ i) {l : Option Leg} {b : Booking} :
    EntryOkBut i j l b ↔ EntryOk l b := by
  simp [EntryOkBut, other]

/-- A property of entries that a close gives and a settlement keeps. -/
structure Closable (P : Fin 256 → Option Leg → Booking → Prop) : Prop where
  closed : ∀ (i : Fin 256) (b : Booking) (r : EndReason) (w : Bool) (now : Nat), P i none (b.closed i r w now)
  freed : ∀ (i : Fin 256) (l : Option Leg) (b : Booking), P i l b → b.state.live = false → P i l b.freed

theorem closable_entryOk : Closable fun _ => EntryOk where
  closed i _ r w now := EntryOk.closed i r w now
  freed _ _ _ h := h.freed

theorem closable_entryOkBut (i : Fin 256) : Closable (EntryOkBut i) where
  closed j b r w now := by
    unfold EntryOkBut
    split
    · rfl
    · exact EntryOk.closed j r w now
  freed j l b := by
    unfold EntryOkBut
    split
    · exact fun h _ => h
    · exact fun h => h.freed

theorem State.entryLaw_of_laws {s : State} (settlement : s.settlementLaw) (leg : s.legLaw) (expiry : s.expiryLaw) :
    s.EntryLaw where
  entries i := ⟨(leg i).1, (leg i).2, expiry i⟩
  closed := (State.takingLaw_of_laws settlement expiry).closed

namespace State.Entries

variable {P Q : Fin 256 → Option Leg → Booking → Prop} {s t : State}

theorem legLaw (law : s.EntryLaw) : s.legLaw := fun i => ⟨(law.entries i).leg, (law.entries i).active⟩

theorem expiryLaw (law : s.EntryLaw) : s.expiryLaw := fun i => (law.entries i).expiries

theorem takingLaw (law : s.EntryLaw) : s.TakingLaw := ⟨fun i => (law.entries i).expiries.arms, law.closed⟩

/-- The legs, the bookings and the settlement list stand. -/
theorem ofSame (law : s.Entries P) (legs : t.legs = s.legs) (bookings : t.bookings = s.bookings)
    (settlements : t.settlements = s.settlements) : t.Entries P :=
  ⟨by rw [legs, bookings]; exact law.entries, by rw [bookings, settlements]; exact law.closed⟩

/-- The records of one entry change. -/
theorem ofEntry (law : s.Entries P) {i : Fin 256} (others : s.othersStand i t)
    (other : ∀ (j : Fin 256) (l : Option Leg) (b : Booking), j ≠ i → P j l b → Q j l b)
    (entry : Q i t.legs[i] t.bookings[i]) (listed : ∀ j ∈ t.settlements, j ≠ i → j ∈ s.settlements)
    (closed : i ∈ t.settlements → t.bookings[i].state.live = false) : t.Entries Q where
  entries j := by
    by_cases same : j = i
    · exact same ▸ entry
    · rw [(others j same).1, (others j same).2]
      exact other j _ _ same (law.entries j)
  closed j mem := by
    by_cases same : j = i
    · subst same
      exact closed mem
    · rw [(others j same).1]
      exact law.closed j (listed j mem same)

/-- A booking that is live waits for no settlement. -/
theorem not_listed (law : s.Entries P) {i : Fin 256} (live : s.bookings[i].state.live = true) : i ∉ s.settlements :=
  fun mem => Bool.eq_false_iff.1 (law.closed i mem) live

theorem modBooking (law : s.Entries P) {i : Fin 256} {f : Booking → Booking}
    (other : ∀ (j : Fin 256) (l : Option Leg) (b : Booking), j ≠ i → P j l b → Q j l b)
    (entry : Q i s.legs[i] (f s.bookings[i])) (live : (f s.bookings[i]).state.live = s.bookings[i].state.live) :
    (s.modBooking i f).Entries Q := by
  have same := State.modBooking_same i f s
  refine law.ofEntry (s.modBooking_othersStand i f) other (same.symm ▸ entry) (fun _ mem _ => mem) fun mem => ?_
  rw [same, live]
  exact law.closed i mem

theorem foldl {α : Type} {f : State → α → State} (h : ∀ s x, s.Entries P → (f s x).Entries P) (l : List α)
    (law : s.Entries P) : (l.foldl f s).Entries P := by
  induction l generalizing s with
  | nil => exact law
  | cons x l ih => exact ih (h s x law)

/-! ### The close (R124, R125) -/

section Close

variable (closable : Closable P)

include closable

theorem settlementEnter (law : s.Entries P) : s.settlementEnter.Entries P := by
  unfold State.settlementEnter
  split
  · exact law
  · next i rest list =>
    split
    · have closed : s.bookings[i].state.live = false := law.closed i (list ▸ List.mem_cons_self)
      have freed : (s.modBooking i Booking.freed).Entries P :=
        law.modBooking (fun _ _ _ _ h => h) (closable.freed i _ _ (law.entries i) closed) closed.symm
      exact ⟨freed.entries, fun j mem => freed.closed j (list ▸ List.mem_cons_of_mem i mem)⟩
    · exact law

theorem settlementsEnter (n : Nat) (law : s.Entries P) : (s.settlementsEnter n).Entries P := by
  induction n generalizing s with
  | zero => exact law
  | succ n ih => exact ih (law.settlementEnter closable)

theorem closeBooking (law : s.Entries P) (i : Fin 256) (r : EndReason) (w : Bool) :
    (s.closeBooking i r w).Entries P := by
  have stand : (s.closing i r w).bookings[i] = s.bookings[i].closed i r w s.now :=
    State.modBooking_same i (fun b => b.closed i r w s.now) s
  have leg : (s.closing i r w).legs[i] = none := State.putLeg_same i none s
  have others : s.othersStand i (s.closing i r w) := fun j other =>
    ⟨State.modBooking_other other.symm (fun b => b.closed i r w s.now) s, State.putLeg_other other.symm none s⟩
  rw [State.closeBooking_eq]
  refine settlementsEnter closable _ (law.ofEntry others (fun _ _ _ _ h => h) ?_ (fun j mem other => ?_) fun _ => ?_)
  · rw [stand, leg]
    exact closable.closed i _ r w _
  · exact (List.mem_append.1 mem).resolve_right fun last => other (List.mem_singleton.1 last)
  · rw [stand]
    rfl

theorem clearWindows (law : s.Entries P) (i : Fin 256) : (s.clearWindows i).Entries P :=
  foldl (fun _ j law => law.closeBooking closable j _ _) _ law

theorem haltBookings (law : s.Entries P) : s.haltBookings.Entries P :=
  foldl (fun _ j law => law.closeBooking closable j _ _) _ law

end Close

theorem cancelBooking (law : s.EntryLaw) (i : Fin 256) (w : Bool) : (s.cancelBooking i w).EntryLaw :=
  have noted : (s.modBooking i fun b => { b with cancelTime := some s.now }).EntryLaw :=
    law.modBooking (fun _ _ _ _ h => h) { law.entries i with } rfl
  noted.closeBooking closable_entryOk i _ w

end State.Entries

end Sys2Proof.Machine

namespace Sys2Proof.Machine

/-! ### Changes that leave every state (R88, R94 to R96, R98, R101, R113) -/

/-- The entries of `t` are those of `s` but for meters, line checks that have ended, and leg records of the same
presence and the same activity. -/
structure EntryStep (s t : State) : Prop where
  settlements : t.settlements = s.settlements
  legs : ∀ i : Fin 256, t.legs[i].map (fun x => x.active.isSome) = s.legs[i].map fun x => x.active.isSome
  bookings : ∀ i : Fin 256, ∃ m : Meter,
    t.bookings[i] = { s.bookings[i] with meter := m } ∨ t.bookings[i] = { s.bookings[i].lineDone with meter := m }

namespace EntryStep

variable {s t u : State}

theorem ofSame (legs : t.legs = s.legs) (bookings : t.bookings = s.bookings)
    (settlements : t.settlements = s.settlements) : EntryStep s t :=
  ⟨settlements, fun i => by rw [legs], fun i => ⟨s.bookings[i].meter, Or.inl (by rw [bookings])⟩⟩

theorem refl (s : State) : EntryStep s s := .ofSame rfl rfl rfl

theorem trans (a : EntryStep s t) (b : EntryStep t u) : EntryStep s u := by
  refine ⟨b.settlements.trans a.settlements, fun i => (b.legs i).trans (a.legs i), fun i => ?_⟩
  obtain ⟨m, first⟩ := a.bookings i
  obtain ⟨n, next⟩ := b.bookings i
  refine ⟨n, ?_⟩
  rcases first with first | first <;> rcases next with next | next <;> rw [next, first]
  · exact Or.inl rfl
  all_goals exact Or.inr rfl

theorem foldl {α : Type} (f : State → α → State) (h : ∀ s a, EntryStep s (f s a)) (l : List α) (s : State) :
    EntryStep s (l.foldl f s) := by
  induction l generalizing s with
  | nil => exact refl s
  | cons a l ih => exact (h s a).trans (ih (f s a))

end EntryStep

/-- A change that leaves every state keeps the entry law. -/
theorem State.Entries.step {s t : State} (law : s.EntryLaw) (h : EntryStep s t) : t.EntryLaw where
  entries i := by
    obtain ⟨preroll, start, onAir, finish, overrun, cap, _, _⟩ := (law.entries i).expiries
    obtain ⟨m, same | same⟩ := h.bookings i <;> rw [same]
    · exact (law.entries i).of_shape (h.legs i) rfl rfl rfl (law.entries i).expiries
    · exact (law.entries i).of_shape (h.legs i) rfl rfl rfl
        ⟨preroll, start, onAir, finish, overrun, cap, by simp [Booking.lineDone], nofun⟩
  closed i mem := by
    have closed := law.closed i (h.settlements ▸ mem)
    obtain ⟨m, same | same⟩ := h.bookings i <;> rw [same] <;> exact closed

section Quiet

variable (s : State)

theorem State.offer_entryStep (body : ReportBody) : EntryStep s (s.offer body) := .ofSame rfl rfl rfl

theorem State.modMeter_entryStep (i : Fin 256) (f : Meter → Meter) : EntryStep s (s.modMeter i f) := by
  refine ⟨rfl, fun _ => rfl, fun j => ?_⟩
  by_cases same : i = j
  · exact same ▸ ⟨_, Or.inl (State.modMeter_same i f s)⟩
  · exact ⟨s.bookings[j].meter, Or.inl (State.modBooking_other same _ s)⟩

variable {s} in
/-- A leg record is replaced by one that is active where it was. -/
theorem State.putLeg_entryStep {i : Fin 256} {l x : Leg} (record : s.legs[i] = some l)
    (active : x.active.isSome = l.active.isSome) : EntryStep s (s.putLeg i (some x)) := by
  refine ⟨rfl, fun j => ?_, fun j => ⟨s.bookings[j].meter, Or.inl rfl⟩⟩
  by_cases same : i = j
  · subst same
    rw [State.putLeg_same, record, Option.map_some, Option.map_some, active]
  · rw [State.putLeg_other same]

variable {s} in
theorem State.switchLeg_entryStep {i : Fin 256} {l x : Leg} (record : s.legs[i] = some l)
    (active : l.active.isSome = true) (before after : LegName) (cause : LegCause) :
    EntryStep s (s.switchLeg i x before after cause) :=
  ((State.putLeg_entryStep (x := { x with active := some after }) record active.symm).trans
    (State.offer_entryStep _ _)).trans (State.modMeter_entryStep _ _ _)

theorem State.autoRule_entryStep (i : Fin 256) (cause : LegCause) : EntryStep s (s.autoRule i cause) := by
  unfold State.autoRule
  split
  · exact .refl s
  · next l record =>
    split
    · next a _ active =>
      dsimp only
      split
      · exact State.switchLeg_entryStep record (by rw [active]; rfl) _ _ _
      · exact .refl s
    · exact .refl s

theorem State.revertRule_entryStep (i : Fin 256) (cause : LegCause) : EntryStep s (s.revertRule i cause) := by
  unfold State.revertRule
  split
  · exact .refl s
  · next l record =>
    dsimp only
    split
    · next _ active =>
      repeat' split
      case isTrue.isTrue.isTrue.isTrue => exact State.switchLeg_entryStep record (by rw [active]; rfl) _ _ _
      case isTrue.isTrue.isTrue.isFalse | isTrue.isFalse => exact State.putLeg_entryStep record rfl
      all_goals exact .refl s
    · exact .refl s

theorem State.legRules_entryStep (i : Fin 256) (a b : LegCause) : EntryStep s (s.legRules i a b) :=
  (s.autoRule_entryStep i a).trans (State.revertRule_entryStep _ i b)

theorem State.judge_entryStep (i : Fin 256) : EntryStep s (s.judge i) := by
  unfold State.judge
  dsimp only
  repeat' split
  case isTrue.isTrue.isTrue | isTrue.isFalse.isTrue => exact s.modMeter_entryStep _ _
  all_goals exact .refl s

theorem State.endLineCheck_entryStep (i : Fin 256) (trigger : LineCheckTrigger) :
    EntryStep s (s.endLineCheck i trigger) := by
  refine ⟨rfl, fun _ => rfl, fun j => ⟨s.bookings[j].meter, ?_⟩⟩
  by_cases same : j = i
  · subst same
    exact Or.inr (s.endLineCheck_booking j trigger)
  · exact Or.inl (s.endLineCheck_othersStand i trigger j same).1

theorem State.healthChanged_entryStep (src : Fin 48) (before : HealthState) (cause : HealthCause) :
    EntryStep s (s.healthChanged src before cause) := by
  have told : ∀ (s : State) (i : Fin 256), EntryStep s (s.lineCheckTold i) := by
    intro s i
    unfold State.lineCheckTold
    split
    · exact s.endLineCheck_entryStep i _
    · exact .refl s
  unfold State.healthChanged
  exact (((s.offer_entryStep _).trans (.foldl _ told _ _)).trans
    (.foldl _ (fun s i => s.legRules_entryStep i _ _) _ _)).trans (.foldl _ (fun s i => s.judge_entryStep i) _ _)

theorem State.setHealth_entryStep (src : Fin 48) (h : Health) (cause : HealthCause) :
    EntryStep s (s.setHealth src h cause) := by
  have put : EntryStep s (s.putHealth src h) := .ofSame rfl rfl rfl
  unfold State.setHealth
  dsimp only
  split
  · exact put
  · exact put.trans (State.healthChanged_entryStep _ _ _ _)

theorem State.judged_entryStep (src : Fin 48) (k : Nat) (v : Verdict) : EntryStep s (s.judged src k v) := by
  have arrived : EntryStep s (s.modSource src fun _ => s.sources[src].arrived k v) := .ofSame rfl rfl rfl
  rw [State.judged_eq]
  exact arrived.trans (State.setHealth_entryStep _ _ _ _)

theorem State.defineSource_entryStep (o : SourceOrder) : EntryStep s (s.defineSource o) := by
  by_cases same : s.sources[o.src].enabled = o.enable
  · obtain ⟨_, legs, bookings⟩ := State.defineSource_quiet same
    exact .ofSame legs bookings (s.defineSource_sourceStep o).settlements
  · have defined : EntryStep s (s.modSource o.src (·.define o)) := .ofSame rfl rfl rfl
    rw [State.defineSource_of_flip same]
    exact defined.trans (State.setHealth_entryStep _ _ _ _)

theorem State.takeSilence_entryStep (i : Fin 48) : EntryStep s (s.takeSilence i) := by
  unfold State.takeSilence
  split
  · exact s.setHealth_entryStep _ _ _
  · exact .refl s

theorem State.pinLeg_entryStep {i : Fin 256} {l : Leg} (record : s.legs[i] = some l) (f : ForcedLeg) (leg : LegName) :
    EntryStep s (s.pinLeg i l f leg) := by
  rw [State.pinLeg_eq]
  split
  · next active => exact State.switchLeg_entryStep record (by rw [active]; rfl) _ _ _
  · exact State.putLeg_entryStep record rfl

theorem State.forceLeg_entryStep (i : Fin 256) (f : ForcedLeg) : EntryStep s (s.forceLeg i f) := by
  cases record : s.legs[i] with
  | none =>
    simp only [State.forceLeg, record]
    exact .refl s
  | some l =>
    have forced : EntryStep s (s.forced i l f) := by
      cases f with
      | main => exact s.pinLeg_entryStep record _ _
      | backup => exact s.pinLeg_entryStep record _ _
      | auto =>
        exact (State.putLeg_entryStep (x := { l with forced := .auto }) record rfl).trans
          (State.legRules_entryStep _ _ _ _)
    rw [State.forceLeg_of_record record]
    exact forced.trans (State.judge_entryStep _ _)

theorem State.takeRestore_entryStep (i : Fin 256) : EntryStep s (s.takeRestore i) := by
  unfold State.takeRestore
  split
  · exact .refl s
  · next l record =>
    split
    · unfold State.restoreLeg
      dsimp only
      split
      · next active => exact State.switchLeg_entryStep record (by rw [active]; rfl) _ _ _
      · exact State.putLeg_entryStep record rfl
    · exact .refl s

theorem State.takeLineWait_entryStep (i : Fin 256) : EntryStep s (s.takeLineWait i) := by
  unfold State.takeLineWait
  split
  · exact s.endLineCheck_entryStep i _
  · exact .refl s

theorem State.feedHolder_entryStep (holder : Option Handle) (f : Meter → Meter) :
    EntryStep s (s.feedHolder holder f) := by
  cases holder with
  | none => exact .refl s
  | some h => exact s.modMeter_entryStep _ _

theorem State.windowRead_entryStep (t : Txn) (w : Fin 32) (k off : Nat) : EntryStep s (s.windowRead t w k off) := by
  have fill : ∀ x reason, EntryStep s (s.answerFill t w k x reason) := by
    intro x reason
    have wrote : EntryStep s (s.putWindow w (x.filled s.ctl.settings.d k reason).advance) := .ofSame rfl rfl rfl
    have filled : EntryStep s (s.fillTables w k x reason) := by
      unfold State.fillTables
      split
      · exact wrote
      · exact wrote.trans (State.feedHolder_entryStep _ _ _)
    rw [State.answerFill_eq]
    exact filled.trans (.ofSame rfl rfl rfl)
  have deliver : ∀ x leg src m e, EntryStep s (s.answerDeliver t w k x leg src m e) := by
    intro x leg src m e
    have wrote : EntryStep s (s.putWindow w (x.deliver s.ctl.settings.d k leg src m e).advance) := .ofSame rfl rfl rfl
    exact (wrote.trans (State.feedHolder_entryStep _ _ _)).trans (.ofSame rfl rfl rfl)
  unfold State.windowRead State.windowHeaderRead State.windowPayloadRead
  split
  · split
    · exact fill _ _
    · exact deliver _ _ _ _ _
  · split <;> exact .ofSame rfl rfl rfl

end Quiet

/-! ### Pre-roll, start and overrun (R111, R112, R115 to R117, R122) -/

namespace State.Entries

variable {s : State} {i : Fin 256} {P : Fin 256 → Option Leg → Booking → Prop}

/-- The claim of a booking that has no leg record creates one in SWITCH mode, without an active leg (R92). -/
theorem claim_leg (leg : s.legs[i] = none) : ((s.claim i).legs[i].isSome ↔ s.bookings[i].mode = .switch) ∧
    ∀ x, (s.claim i).legs[i] = some x → x.active = none := by
  by_cases mode : s.bookings[i].mode = .switch
  · have record : (s.claim i).legs[i] = some { active := none, forced := .auto, wtrExp := none } :=
      s.claimed_leg_of_switch i true mode
    rw [record]
    exact ⟨iff_of_true rfl mode, fun _ same => by cases same; rfl⟩
  · have same : (s.claim i).legs = s.legs := s.claimed_legs_of_not_switch i true mode
    rw [same, leg]
    exact ⟨iff_of_false nofun mode, nofun⟩

/-- The line check begins: it ends at once, or waits with its expiry armed (R113). -/
theorem beginLineCheck_booking (i : Fin 256) (s : State) : ∃ (check : LineCheckState) (e : Option Nat),
    (e.isSome ↔ check = .waiting) ∧
      (s.beginLineCheck i).bookings[i] = { s.bookings[i] with lineCheck := check, lineExp := e } := by
  unfold State.beginLineCheck
  split
  · exact ⟨.done, none, by decide, s.endLineCheck_booking i _⟩
  · exact ⟨.waiting, some _, iff_of_true rfl rfl, State.modBooking_same i _ s⟩

theorem beginLineCheck_eq (i : Fin 256) (s : State) : s.beginLineCheck i =
    { s with bookings := (s.beginLineCheck i).bookings, poster := (s.beginLineCheck i).poster } := by
  unfold State.beginLineCheck
  split <;> rfl

theorem beginLineCheck_othersStand (i : Fin 256) (s : State) : s.othersStand i (s.beginLineCheck i) := by
  unfold State.beginLineCheck
  split
  · exact s.endLineCheck_othersStand i _
  · exact s.modBooking_othersStand i _

/-- PREROLL entry of a booking that has no leg record (R112). -/
theorem enterPreroll (law : s.Entries P)
    (other : ∀ (j : Fin 256) (l : Option Leg) (b : Booking), j ≠ i → P j l b → EntryOk l b)
    (unaired : Unaired s.legs[i] s.bookings[i]) (leg : s.legs[i] = none) : (s.enterPreroll i).EntryLaw := by
  have entry : (s.prerolled i).bookings[i] =
      { s.bookings[i] with state := .preroll, prerollExp := none, startExp := some s.bookings[i].startS } :=
    State.modBooking_same i _ (s.claim i)
  have legs : (s.enterPreroll i).legs = (s.claim i).legs :=
    (congrArg State.legs (beginLineCheck_eq i (s.prerolled i)) :)
  have settlements : (s.enterPreroll i).settlements = s.settlements :=
    (congrArg State.settlements (beginLineCheck_eq i (s.prerolled i)) :)
  have others : s.othersStand i (s.enterPreroll i) :=
    ((s.claimed_othersStand i true).trans (State.modBooking_othersStand i (s.claim i) _)).trans
      (beginLineCheck_othersStand i (s.prerolled i))
  obtain ⟨check, e, line, checked⟩ := beginLineCheck_booking i (s.prerolled i)
  obtain ⟨claimed, inactive⟩ := claim_leg leg
  refine law.ofEntry others other ?_ (fun j mem _ => settlements ▸ mem) fun mem =>
    absurd (settlements ▸ mem) (law.not_listed unaired.live)
  have entered : (s.enterPreroll i).bookings[i] = ((s.prerolled i).beginLineCheck i).bookings[i] := rfl
  rw [legs, entered, checked, entry]
  exact unaired.prerolled claimed inactive line

/-- ON_AIR entry of a booking that has claimed its sources, or claims them now (R116). -/
theorem enterOnAir (law : s.Entries P)
    (other : ∀ (j : Fin 256) (l : Option Leg) (b : Booking), j ≠ i → P j l b → EntryOk l b)
    (unaired : Unaired s.legs[i] s.bookings[i]) (preroll : s.bookings[i].prerollExp = none) (fresh : Bool)
    (claimed : fresh = false → s.bookings[i].mode = .switch → s.legs[i].isSome = true) (n : Nat) :
    (s.enterOnAir i fresh n).EntryLaw := by
  obtain ⟨legs, _, _, _, _, _, settlements⟩ := s.enterOnAir_tables i fresh n
  refine law.ofEntry (s.enterOnAir_othersStand i fresh n) other ?_ (fun j mem _ => settlements ▸ mem) fun mem =>
    absurd (settlements ▸ mem) (law.not_listed unaired.live)
  rw [s.enterOnAir_booking i fresh n, legs]
  by_cases mode : s.bookings[i].mode = .switch
  · have record : ∃ l, (s.claimed i fresh).legs[i] = some l := by
      rw [s.claimed_leg_of_switch i fresh mode]
      cases fresh with
      | true => exact ⟨_, rfl⟩
      | false => exact Option.isSome_iff_exists.1 (claimed rfl mode)
    obtain ⟨l, record⟩ := record
    rw [s.airJudged_leg_of_switch i fresh mode record]
    exact unaired.aired preroll (iff_of_true rfl mode) (fun _ same => by cases same; rfl) _ _
  · rw [s.airJudged_legs_of_not_switch i fresh mode, unaired.leg mode]
    exact unaired.aired preroll (l' := none) (iff_of_false nofun mode) nofun _ _

/-- The start of a booking from PREROLL (R115, R116). -/
theorem startBooking (law : s.EntryLaw) (state : s.bookings[i].state = .preroll) :
    (s.startBooking i false).EntryLaw := by
  have cleared := law.clearWindows closable_entryOk i
  obtain ⟨_, kept⟩ := State.clearWindows_expiries (a := none) law.takingLaw (i := i)
    (congrArg BookingState.live state)
  have entry := cleared.entries i
  have waited : (s.clearWindows i).bookings[i].state = .preroll := (congrArg Booking.state kept).trans state
  have preroll : (s.clearWindows i).bookings[i].prerollExp = none := by
    rw [← Option.not_isSome_iff_eq_none, entry.expiries.1, waited]
    decide
  exact cleared.enterOnAir (fun _ _ _ _ h => h) (entry.unaired (Or.inr waited)) preroll false
    (fun _ mode => entry.leg.2 ⟨mode, by rw [waited]; rfl⟩) _

end State.Entries

/-! ### BOOK (R111) -/

section Book

variable {s : State} {i : Fin 256} {b : Booking} {o : BookOrder} {start : Nat} {t : Tariff}

/-- The law of the takings holds of a table with an accepted booking. -/
theorem State.Entries.takingLaw_of_accepted (law : s.Entries (EntryOkBut i))
    (new : s.bookings[i] = b.accepted o start t) : s.TakingLaw where
  entries j := by
    by_cases same : j = i
    · rw [same, new]
      exact ⟨nofun, nofun, nofun, nofun, nofun⟩
    · exact ((entryOkBut_other same).1 (law.entries j)).expiries.arms
  closed := law.closed

/-- The first state of an accepted booking: ON_AIR, PREROLL or PENDING (R111). -/
theorem State.Entries.firstState (law : s.Entries (EntryOkBut i)) (new : s.bookings[i] = b.accepted o start t) :
    (s.firstState i).EntryLaw := by
  have other : ∀ (j : Fin 256) (l : Option Leg) (b : Booking), j ≠ i → EntryOkBut i j l b → EntryOk l b :=
    fun _ _ _ differs => (entryOkBut_other differs).1
  have leg : s.legs[i] = none := entryOkBut_same.1 (law.entries i)
  unfold State.firstState
  dsimp only
  split
  · have cleared := law.clearWindows (closable_entryOkBut i) i
    obtain ⟨_, kept⟩ := State.clearWindows_expiries (a := none) (law.takingLaw_of_accepted new) (i := i)
      (congrArg (·.state.live) new)
    have leg : (s.clearWindows i).legs[i] = none := entryOkBut_same.1 (cleared.entries i)
    have entry := kept.trans new
    refine cleared.enterOnAir other ?_ (congrArg Booking.prerollExp entry) true nofun _
    rw [leg, entry]
    exact .of_accepted b o start t
  · split
    · refine law.enterPreroll other ?_ leg
      rw [leg, new]
      exact .of_accepted b o start t
    · refine law.modBooking other ?_ rfl
      rw [leg, new]
      exact EntryOk.pending rfl rfl rfl rfl rfl rfl

/-- A booking is accepted at a FREE entry (R110, R111). -/
theorem State.free_of_bookCheck (check : s.bookCheck o = .ok i) : s.bookings[i].state = .free := by
  have found : s.freeEntry = some i := by
    unfold State.bookCheck at check
    repeat' split at check
    case h_2.isFalse entry _ => cases check; exact entry
    all_goals cases check
  have free : (s.bookings[i].state == .free) = true :=
    List.find?_some (p := fun j : Fin 256 => s.bookings[j].state == .free) found
  exact beq_iff_eq.1 free

/-- A FREE entry that takes a booking has no leg record and waits for no settlement (R111). -/
theorem State.Entries.bookOrder (law : s.EntryLaw) (settlement : s.settlementLaw) (e : List Byte) (n : Nat) :
    (Machine.bookOrder e n s).1.EntryLaw := by
  unfold Machine.bookOrder
  split
  · exact law
  · next o _ =>
    split
    · exact law
    · next i check =>
      have free := State.free_of_bookCheck check
      have entry : (s.recordBooking i o).bookings[i] =
          s.bookings[i].accepted o (o.effectiveStart s.now) s.tariffs[o.cls] :=
        State.modBooking_same i (·.accepted o (o.effectiveStart s.now) s.tariffs[o.cls]) s
      have others : s.othersStand i (s.recordBooking i o) :=
        s.modBooking_othersStand i (·.accepted o (o.effectiveStart s.now) s.tariffs[o.cls])
      have recorded : (s.recordBooking i o).Entries (EntryOkBut i) := by
        refine law.ofEntry others (fun _ _ _ differs => (entryOkBut_other differs).2)
          (entryOkBut_same.2 ((law.entries i).leg_eq_none (by rw [free]; rfl))) (fun _ mem _ => mem) fun mem => ?_
        cases free.symm.trans ((settlement.2 i).1.1 mem)
      exact recorded.firstState entry

end Book

end Sys2Proof.Machine

namespace Sys2Proof.Machine

/-! ### The takings and the orders of one booking (R112, R115 to R122) -/

namespace State.Entries

variable {s : State} (law : s.EntryLaw)

include law

theorem takePreroll (i : Fin 256) : (s.takePreroll i).EntryLaw := by
  unfold State.takePreroll
  split
  · next due =>
    split
    · exact law.cancelBooking i _
    · exact law.enterPreroll (fun _ _ _ _ h => h) ((law.entries i).unaired (Or.inl due.1))
        ((law.entries i).leg_eq_none (by rw [due.1]; rfl))
  · exact law

theorem takeStart (i : Fin 256) : (s.takeStart i).EntryLaw := by
  unfold State.takeStart
  split
  · next due => exact law.startBooking due.1
  · exact law

theorem takeEnd (i : Fin 256) : (s.takeEnd i).EntryLaw := by
  unfold State.takeEnd
  split
  · next due =>
    split
    · exact (law.modBooking (fun _ _ _ _ h => h) ((law.entries i).overrun due.1) (by rw [due.1]; rfl)).step
        (State.offer_entryStep _ _)
    · exact law.closeBooking closable_entryOk i _ _
  · exact law

theorem takeCap (i : Fin 256) : (s.takeCap i).EntryLaw := by
  unfold State.takeCap
  split
  · exact law.closeBooking closable_entryOk i _ _
  · exact law

theorem extendOrder (e : List Byte) (n : Nat) : (Machine.extendOrder e n s).1.EntryLaw := by
  have extended : ∀ (i : Fin 256) (newEnd : Nat), (s.extendBooking i newEnd).EntryLaw := fun i newEnd =>
    (law.modBooking (f := (·.extended newEnd s.now)) (fun _ _ _ _ h => h) ((law.entries i).extended _ _)
      (Booking.extended_live _ _ _)).ofSame rfl rfl rfl
  unfold Machine.extendOrder
  dsimp only
  repeat' split
  case isFalse.isFalse.isFalse.isFalse => exact extended _ _
  all_goals exact law

theorem releaseOrder (e : List Byte) (n : Nat) : (Machine.releaseOrder e n s).1.EntryLaw := by
  unfold Machine.releaseOrder
  dsimp only
  repeat' split
  case isFalse.isTrue => exact law.closeBooking closable_entryOk _ _ _
  all_goals exact law

theorem cancelOrder (e : List Byte) (n : Nat) : (Machine.cancelOrder e n s).1.EntryLaw := by
  unfold Machine.cancelOrder
  dsimp only
  repeat' split
  case h_1 | h_2 => exact law.cancelBooking _ _
  all_goals exact law

theorem defineWindowOrder (e : List Byte) (n : Nat) : (Machine.defineWindowOrder e n s).1.EntryLaw := by
  unfold Machine.defineWindowOrder
  dsimp only
  repeat' split
  case h_2.isFalse => exact law.ofSame rfl rfl rfl
  all_goals exact law

/-- SET_TIME finds every entry FREE, with no expiry to move (R55, R56). -/
theorem setHouse (new : Nat) (free : s.allFree = true) : (s.setHouse new).EntryLaw where
  entries i := by
    have leg : (s.setHouse new).legs[i] =
        s.legs[i].map fun r => { r with wtrExp := r.wtrExp.map (shiftExpiry s.now new) } := Vector.getElem_map ..
    rw [leg, State.setHouse_booking]
    exact (law.entries i).shifted ((State.allFree_iff s).1 free i) _
  closed i mem := by
    rw [State.setHouse_booking]
    exact law.closed i mem

end State.Entries

/-! ### Every step -/

/-- Entries of RESET, whatever their generations, with no leg record and no settlement (R92, R104, R166). -/
theorem State.entryLaw_of_reset {s : State} (legs : ∀ i : Fin 256, s.legs[i] = none)
    (bookings : ∀ i : Fin 256, ∃ g, s.bookings[i] = Booking.reset g) (settlements : s.settlements = []) :
    s.EntryLaw where
  entries i := by
    obtain ⟨g, entry⟩ := bookings i
    rw [legs, entry]
    exact EntryOk.reset g
  closed i mem := by
    rw [settlements] at mem
    cases mem

theorem State.Entries.of_tables {s t : State} (law : s.EntryLaw) (same : t.tables = s.tables) : t.EntryLaw := by
  simp only [State.tables, Prod.mk.injEq] at same
  obtain ⟨_, _, legs, bookings, _, _, _, settlements⟩ := same
  exact law.ofSame legs bookings settlements

theorem entryLaw_tableInvariant : TableInvariant State.EntryLaw where
  frame law same := law.of_tables same
  judged src k v _ law := law.step (State.judged_entryStep _ src k v)
  silence i law := law.step (State.takeSilence_entryStep _ i)
  interval law := law.ofSame rfl rfl rfl
  read t w k off law := law.step (State.windowRead_entryStep _ t w k off)
  define o _ law := law.step (State.defineSource_entryStep _ o)
  clear {s} i law := by
    have cleared : EntryStep s (s.modSource i Source.clearBaseline) := .ofSame rfl rfl rfl
    exact law.step (cleared.trans (State.setHealth_entryStep _ _ _ _))
  forceLeg i f law := law.step (State.forceLeg_entryStep _ i f)
  book e n settlement law := law.bookOrder settlement e n
  extend e n law := law.extendOrder e n
  release e n law := law.releaseOrder e n
  cancel e n law := law.cancelOrder e n
  window e n law := law.defineWindowOrder e n
  house new free law := law.setHouse new free
  halt law := law.haltBookings closable_entryOk
  settle law := law.settlementEnter closable_entryOk
  restore i law := law.step (State.takeRestore_entryStep _ i)
  preroll i law := law.takePreroll i
  lineWait i law := law.step (State.takeLineWait_entryStep _ i)
  start i law := law.takeStart i
  finish i law := law.takeEnd i
  cap i law := law.takeCap i
  reset same := (State.entryLaw_of_reset State.reset_leg (fun i => ⟨0, State.reset_booking i⟩) rfl).of_tables same
  cleared {s _} d same := by
    have law : (s.clearTables d).EntryLaw := State.entryLaw_of_reset (fun _ => Vector.getElem_replicate _)
      (fun i => ⟨s.bookings[i].gen, Vector.getElem_map ..⟩) rfl
    exact law.of_tables same

/-- Settles O60: the entry law, kept by every step. -/
theorem legsAndExpiriesFollowTheState : Obligations.LegsAndExpiriesFollowTheState := by
  intro s t _ settlement leg expiry next
  have law := entryLaw_tableInvariant.step next settlement (State.entryLaw_of_laws settlement leg expiry)
  exact ⟨law.legLaw, law.expiryLaw⟩

end Sys2Proof.Machine


namespace Sys2Proof.Machine

/-! ## What every step keeps of the booking table (R104 to R108)

The calendar and the use counts follow the bookings that are live and those that hold their sources. They change at few
places: the close of a booking, the claim of its sources, its record in the calendar, and a new planned end. A property
of them that each of those keeps, and that tables which agree have in common, is kept by every step from lawful
settlements. -/

/-- `c` is as live as `b`, holds its sources as `b` does, and names what `b` names over the same interval. -/
structure Booking.Stands (b c : Booking) : Prop where
  live : c.state.live = b.state.live
  holds : c.state.holdsSources = b.state.holdsSources
  main : c.main = b.main
  backup : c.backup = b.backup
  windows : c.windows = b.windows
  startS : c.startS = b.startS
  endE : c.endE = b.endE

theorem Booking.Stands.refl (b : Booking) : b.Stands b := ⟨rfl, rfl, rfl, rfl, rfl, rfl, rfl⟩

theorem Booking.Stands.of_eq {b c : Booking} (same : c = b) : b.Stands c := same ▸ .refl b

theorem Booking.Stands.trans {b c d : Booking} (h : b.Stands c) (k : c.Stands d) : b.Stands d :=
  ⟨k.live.trans h.live, k.holds.trans h.holds, k.main.trans h.main, k.backup.trans h.backup,
    k.windows.trans h.windows, k.startS.trans h.startS, k.endE.trans h.endE⟩

theorem Booking.Stands.names {b c : Booking} (h : b.Stands c) (x : Fin 48) : c.names x = b.names x := by
  rw [Booking.names, h.main, h.backup, Booking.names]

/-- `t` has the calendar, the use counts and the bookings of `s` as far as their laws read them, no new settlement,
and every source in use as enabled as before. -/
structure BookingFrame (s t : State) : Prop where
  calendar : t.calendar = s.calendar
  useCounts : t.useCounts = s.useCounts
  settlements : ∀ i ∈ t.settlements, i ∈ s.settlements
  bookings : ∀ i : Fin 256, s.bookings[i].Stands t.bookings[i]
  enabled : ∀ x : Fin 48, 0 < s.useCounts[x] → s.sources[x].enabled = true → t.sources[x].enabled = true

/-- The settlement list holds closed bookings alone. -/
def State.closedListed (s : State) : Prop := ∀ i ∈ s.settlements, s.bookings[i].state.live = false

theorem BookingFrame.closedListed {s t : State} (h : BookingFrame s t) (closed : s.closedListed) : t.closedListed :=
  fun i mem => (h.bookings i).live.trans (closed i (h.settlements i mem))

theorem State.closedListed_of_settlementLaw {s : State} (law : s.settlementLaw) : s.closedListed := by
  intro i mem
  rw [(law.2 i).1.1 mem]
  rfl

/-! ### Changes that leave them -/

namespace BookingFrame

theorem trans {s t u : State} (a : BookingFrame s t) (b : BookingFrame t u) : BookingFrame s u where
  calendar := b.calendar.trans a.calendar
  useCounts := b.useCounts.trans a.useCounts
  settlements i mem := a.settlements i (b.settlements i mem)
  bookings i := (a.bookings i).trans (b.bookings i)
  enabled x used on := b.enabled x (a.useCounts ▸ used) (a.enabled x used on)

/-- The tables but for the bookings stand, and each booking as far as the laws read it. -/
theorem ofBookings {s t : State} (bookings : ∀ i : Fin 256, s.bookings[i].Stands t.bookings[i])
    (calendar : t.calendar = s.calendar) (useCounts : t.useCounts = s.useCounts)
    (settlements : t.settlements = s.settlements) (sources : t.sources = s.sources) : BookingFrame s t where
  calendar := calendar
  useCounts := useCounts
  settlements _ mem := settlements ▸ mem
  bookings := bookings
  enabled _ _ on := sources ▸ on

theorem ofSame {s t : State} (bookings : t.bookings = s.bookings) (calendar : t.calendar = s.calendar)
    (useCounts : t.useCounts = s.useCounts) (settlements : t.settlements = s.settlements)
    (sources : t.sources = s.sources) : BookingFrame s t :=
  .ofBookings (fun i => .of_eq (by rw [bookings])) calendar useCounts settlements sources

theorem refl (s : State) : BookingFrame s s := .ofSame rfl rfl rfl rfl rfl

/-- One booking changes in what the laws do not read. -/
theorem modBooking {s : State} {i : Fin 256} {f : Booking → Booking} (entry : s.bookings[i].Stands (f s.bookings[i])) :
    BookingFrame s (s.modBooking i f) := by
  refine .ofBookings (fun j => ?_) rfl rfl rfl rfl
  by_cases same : i = j
  · exact same ▸ (State.modBooking_same i f s).symm ▸ entry
  · exact .of_eq (State.modBooking_other same f s)

/-- Tables of RESET, whatever the generations, the slots and the bindings. -/
theorem ofCleared (d : Nat) (s : State) : BookingFrame State.reset (s.clearTables d) where
  calendar := rfl
  useCounts := rfl
  settlements := nofun
  bookings i := by
    have entry : (s.clearTables d).bookings[i] = Booking.reset s.bookings[i].gen := Vector.getElem_map ..
    rw [State.reset_booking, entry]
    exact ⟨rfl, rfl, rfl, rfl, rfl, rfl, rfl⟩
  enabled x used := by
    rw [State.reset_useCount] at used
    exact absurd used (lt_irrefl 0)

end BookingFrame

theorem State.bookingsQuiet.stands {s t : State} (h : s.bookingsQuiet t) (i : Fin 256) :
    s.bookings[i].Stands t.bookings[i] :=
  h i ▸ ⟨rfl, rfl, rfl, rfl, rfl, rfl, rfl⟩

theorem BookingFrame.ofTables {s t : State} (same : t.tables = s.tables) : BookingFrame s t := by
  simp only [State.tables, Prod.mk.injEq] at same
  obtain ⟨sources, _, _, bookings, calendar, useCounts, _, settlements⟩ := same
  exact .ofSame bookings calendar useCounts settlements sources

theorem QuietStep.bookingFrame {s t : State} (h : QuietStep s t) : BookingFrame s t :=
  .ofBookings h.bookings.stands h.calendar h.useCounts h.settlements h.sources

/-- A change of one source's records that leaves it enabled, if it is in use. -/
theorem SourceStep.bookingFrame {src : Fin 48} {s t : State} (h : SourceStep src s t)
    (enabled : 0 < s.useCounts[src] → s.sources[src].enabled = true → t.sources[src].enabled = true) :
    BookingFrame s t where
  calendar := h.calendar
  useCounts := h.useCounts
  settlements _ mem := h.settlements ▸ mem
  bookings := h.bookings.stands
  enabled x used on := by
    by_cases same : x = src
    · subst same
      exact enabled used on
    · rw [(h.others x same).1]
      exact on

theorem Source.arrived_enabled (r : Source) (k : Nat) (v : Verdict) : (r.arrived k v).enabled = r.enabled := by
  cases v <;> rfl

theorem State.judged_bookingFrame (src : Fin 48) (k : Nat) (v : Verdict) (s : State) :
    BookingFrame s (s.judged src k v) :=
  (s.judged_sourceStep src k v).bookingFrame fun _ on => by rwa [State.judged_source, Source.arrived_enabled]

theorem State.takeSilence_bookingFrame (i : Fin 48) (s : State) : BookingFrame s (s.takeSilence i) := by
  unfold State.takeSilence
  split
  · exact (s.setHealth_sourceStep i _ _).bookingFrame fun _ on => by rwa [State.setHealth_sources]
  · exact .refl s

theorem State.clearIntervals_bookingFrame (s : State) : BookingFrame s s.clearIntervals where
  calendar := rfl
  useCounts := rfl
  settlements _ := id
  bookings i := .refl s.bookings[i]
  enabled x _ on := by
    have cleared : s.clearIntervals.sources[x] = s.sources[x].clearInterval := Vector.getElem_map ..
    rw [cleared]
    exact on

/-- DEFINE_SOURCE leaves a source in use enabled (R77). -/
theorem State.defineSource_bookingFrame {o : SourceOrder} {s : State} (unused : s.sourceInUse o = false) :
    BookingFrame s (s.defineSource o) := by
  refine (s.defineSource_sourceStep o).bookingFrame fun used on => ?_
  rcases (s.sourceInUse_eq_false_iff o).1 unused with zero | ⟨enable, _⟩
  · exact absurd zero (Nat.pos_iff_ne_zero.1 used)
  · have same : s.sources[o.src].enabled = o.enable := on.trans enable.symm
    rw [State.defineSource_source, Source.define_of_same same]
    exact on

theorem State.clearSource_bookingFrame (i : Fin 48) (s : State) : BookingFrame s (s.clearSource i) :=
  (s.clearSource_sourceStep i).bookingFrame fun _ on => by
    rw [State.clearSource, State.setHealth_sources, State.modSource_same]
    exact on

theorem State.feedHolder_quiet (holder : Option Handle) (f : Meter → Meter) (s : State) :
    QuietStep s (s.feedHolder holder f) := by
  cases holder with
  | none => exact .refl s
  | some h => exact s.modMeter_quiet _ _

theorem State.windowRead_bookingFrame (t : Txn) (w : Fin 32) (k off : Nat) (s : State) :
    BookingFrame s (s.windowRead t w k off) := by
  have fill : ∀ x reason, BookingFrame s (s.answerFill t w k x reason) := by
    intro x reason
    have wrote : BookingFrame s (s.putWindow w (x.filled s.ctl.settings.d k reason).advance) :=
      .ofSame rfl rfl rfl rfl rfl
    have filled : BookingFrame s (s.fillTables w k x reason) := by
      unfold State.fillTables
      split
      · exact wrote
      · exact wrote.trans (State.feedHolder_quiet _ _ _).bookingFrame
    rw [State.answerFill_eq]
    exact filled.trans (.ofSame rfl rfl rfl rfl rfl)
  have deliver : ∀ x leg src m e, BookingFrame s (s.answerDeliver t w k x leg src m e) := by
    intro x leg src m e
    have wrote : BookingFrame s (s.putWindow w (x.deliver s.ctl.settings.d k leg src m e).advance) :=
      .ofSame rfl rfl rfl rfl rfl
    exact (wrote.trans (State.feedHolder_quiet _ _ _).bookingFrame).trans (.ofSame rfl rfl rfl rfl rfl)
  unfold State.windowRead State.windowHeaderRead State.windowPayloadRead
  split
  · split
    · exact fill _ _
    · exact deliver _ _ _ _ _
  · split <;> exact .ofSame rfl rfl rfl rfl rfl

theorem defineWindowOrder_bookingFrame (e : List Byte) (n : Nat) (s : State) :
    BookingFrame s (defineWindowOrder e n s).1 := by
  unfold defineWindowOrder
  dsimp only
  repeat' split
  all_goals exact .ofSame rfl rfl rfl rfl rfl

theorem State.setHouse_bookingFrame (new : Nat) (s : State) : BookingFrame s (s.setHouse new) := by
  refine .ofBookings (fun i => ?_) rfl rfl rfl rfl
  rw [State.setHouse_booking]
  exact ⟨rfl, rfl, rfl, rfl, rfl, rfl, rfl⟩

theorem State.takeRestore_bookingFrame (i : Fin 256) (s : State) : BookingFrame s (s.takeRestore i) := by
  unfold State.takeRestore
  repeat' split
  case h_2.isTrue => exact (State.restoreLeg_quiet _ _ _).bookingFrame
  all_goals exact .refl s

theorem State.takeLineWait_bookingFrame (i : Fin 256) (s : State) : BookingFrame s (s.takeLineWait i) := by
  unfold State.takeLineWait
  split
  · exact (State.endLineCheck_quiet _ _ _).bookingFrame
  · exact .refl s

theorem State.enterOverrun_bookingFrame {i : Fin 256} {s : State} (onAir : s.bookings[i].state = .onAir) :
    BookingFrame s (s.enterOverrun i) := by
  have entered : BookingFrame s (s.modBooking i fun b =>
      { b with state := .overrun, endExp := none, capExp := some (b.endE + b.maxOver) }) :=
    .modBooking ⟨by rw [onAir]; rfl, by rw [onAir]; rfl, rfl, rfl, rfl, rfl, rfl⟩
  exact entered.trans (State.offer_quiet _ _).bookingFrame

/-! ### Settlements that enter (R125, R166) -/

theorem BookingState.holdsSources_of_closed {x : BookingState} (closed : x.live = false) : x.holdsSources = false := by
  rcases (BookingState.live_eq_false_iff x).1 closed with rfl | rfl <;> rfl

theorem Booking.stands_freed {b : Booking} (closed : b.state.live = false) : b.Stands b.freed :=
  ⟨closed.symm, (BookingState.holdsSources_of_closed closed).symm, rfl, rfl, rfl, rfl, rfl⟩

theorem State.settlementEnter_bookingFrame {s : State} (closed : s.closedListed) :
    BookingFrame s s.settlementEnter := by
  unfold State.settlementEnter
  split
  · exact .refl s
  · next i rest list =>
    split
    · have freed : BookingFrame s (s.modBooking i Booking.freed) :=
        .modBooking (Booking.stands_freed (closed i (list ▸ List.mem_cons_self)))
      exact { freed with settlements := fun j mem => list ▸ List.mem_cons_of_mem i mem }
    · exact .refl s

/-- The entry of `j` stands, or is freed from the settlement list, on which it does not appear anew. -/
def State.entryStands (j : Fin 256) (s t : State) : Prop :=
  (t.bookings[j] = s.bookings[j] ∨ (j ∈ s.settlements ∧ t.bookings[j] = s.bookings[j].freed)) ∧
    (j ∈ t.settlements → j ∈ s.settlements)

theorem State.entryStands_of_eq {j : Fin 256} {s t : State} (entry : t.bookings[j] = s.bookings[j])
    (listed : j ∈ t.settlements → j ∈ s.settlements) : s.entryStands j t := ⟨Or.inl entry, listed⟩

theorem State.entryStands.trans {j : Fin 256} {s t u : State} (a : s.entryStands j t) (b : t.entryStands j u) :
    s.entryStands j u := by
  obtain ⟨first, listed⟩ := a
  obtain ⟨next, stays⟩ := b
  refine ⟨?_, listed ∘ stays⟩
  rcases next with next | ⟨mem, next⟩
  · rwa [next]
  · rcases first with first | ⟨_, first⟩
    · exact Or.inr ⟨listed mem, by rw [next, first]⟩
    · exact Or.inr ⟨listed mem, by rw [next, first]; rfl⟩

theorem State.entryStands.of_live {j : Fin 256} {s t : State} (h : s.entryStands j t) (closed : s.closedListed)
    (live : s.bookings[j].state.live = true) : t.bookings[j] = s.bookings[j] :=
  h.1.resolve_right fun freed => Bool.eq_false_iff.1 (closed j freed.1) live

theorem State.entryStands_foldl {α : Type} {f : State → α → State} {j : Fin 256} (l : List α)
    (h : ∀ s : State, ∀ x ∈ l, s.entryStands j (f s x)) (s : State) : s.entryStands j (l.foldl f s) := by
  induction l generalizing s with
  | nil => exact State.entryStands_of_eq rfl id
  | cons x l ih =>
    exact (h s x List.mem_cons_self).trans (ih (fun s y mem => h s y (List.mem_cons_of_mem x mem)) _)

theorem State.settlementEnter_entryStands (j : Fin 256) (s : State) : s.entryStands j s.settlementEnter := by
  unfold State.settlementEnter
  split
  · exact State.entryStands_of_eq rfl id
  · next i rest list =>
    have stays : j ∈ rest → j ∈ s.settlements := fun mem => list ▸ List.mem_cons_of_mem i mem
    split
    · refine ⟨?_, stays⟩
      by_cases same : i = j
      · subst same
        exact Or.inr ⟨list ▸ List.mem_cons_self, State.modBooking_same i Booking.freed s⟩
      · exact Or.inl (State.modBooking_other same Booking.freed s)
    · exact State.entryStands_of_eq rfl id

theorem State.drainSettlements_entryStands (j : Fin 256) (s : State) : s.entryStands j s.drainSettlements := by
  have enters : ∀ (n : Nat) (s : State), s.entryStands j (s.settlementsEnter n) := by
    intro n
    induction n with
    | zero => exact fun _ => State.entryStands_of_eq rfl id
    | succ n ih => exact fun s => (s.settlementEnter_entryStands j).trans (ih _)
  exact enters _ s

/-- A close leaves every other entry but for a settlement that enters (R124, R125). -/
theorem State.closeBooking_entryStands {i j : Fin 256} (other : j ≠ i) (r : EndReason) (w : Bool) (s : State) :
    s.entryStands j (s.closeBooking i r w) := by
  rw [State.closeBooking_eq]
  refine .trans (State.entryStands_of_eq ?_ fun mem => ?_) (State.drainSettlements_entryStands j _)
  · exact State.modBooking_other other.symm (fun b => b.closed i r w s.now) s
  · exact (List.mem_append.1 mem).resolve_right fun last => other (List.mem_singleton.1 last)

theorem State.mem_holdersFor_ne {s : State} {i a : Fin 256} (mem : a ∈ s.holdersFor i) : a ≠ i := by
  have both := (List.mem_filter.1 mem).2
  rw [Bool.and_eq_true, bne_iff_ne] at both
  exact both.1

/-- The closes before a start leave the booking that starts, but for a settlement that enters (R115). -/
theorem State.clearWindows_entryStands (i : Fin 256) (s : State) : s.entryStands i (s.clearWindows i) :=
  State.entryStands_foldl _ (fun s _ mem => s.closeBooking_entryStands (State.mem_holdersFor_ne mem).symm _ _) s

/-! ### A booking claims its sources (R108) -/

/-- `t` follows from `s` by the claim of booking `i`, whose sources are enabled: it holds them now, and each use count
that it names is raised. -/
structure ClaimStep (i : Fin 256) (s t : State) : Prop where
  calendar : t.calendar = s.calendar
  settlements : t.settlements = s.settlements
  sources : t.sources = s.sources
  others : ∀ j, j ≠ i → t.bookings[j] = s.bookings[j]
  live : t.bookings[i].state.live = s.bookings[i].state.live
  unheld : s.bookings[i].state.holdsSources = false
  held : t.bookings[i].state.holdsSources = true
  main : t.bookings[i].main = s.bookings[i].main
  backup : t.bookings[i].backup = s.bookings[i].backup
  windows : t.bookings[i].windows = s.bookings[i].windows
  startS : t.bookings[i].startS = s.bookings[i].startS
  endE : t.bookings[i].endE = s.bookings[i].endE
  useCounts : t.useCounts = raiseUse s.bookings[i].sources s.useCounts
  enabled : ∀ x ∈ s.bookings[i].sources, s.sources[x].enabled = true

section Claim

variable {i : Fin 256} {s : State} (pending : s.bookings[i].state = .pending)
  (enabled : ∀ x ∈ s.bookings[i].sources, s.sources[x].enabled = true)

include pending enabled

/-- PREROLL entry claims the sources (R112). -/
theorem State.enterPreroll_claim : ClaimStep i s (s.enterPreroll i) := by
  have quiet : QuietStep (s.prerolled i) (s.enterPreroll i) := State.beginLineCheck_quiet i (s.prerolled i)
  have others : s.othersStand i (s.prerolled i) :=
    (s.claimed_othersStand i true).trans (State.modBooking_othersStand i (s.claim i) _)
  have entry : (s.prerolled i).bookings[i] =
      { s.bookings[i] with state := .preroll, prerollExp := none, startExp := some s.bookings[i].startS } :=
    State.modBooking_same i _ (s.claim i)
  have stands := quiet.bookings.stands i
  rw [entry] at stands
  exact {
    calendar := quiet.calendar
    settlements := quiet.settlements
    sources := quiet.sources
    others := fun j other =>
      (State.Entries.beginLineCheck_othersStand i (s.prerolled i) j other).1.trans (others j other).1
    live := stands.live.trans (by rw [pending]; rfl)
    unheld := by rw [pending]; rfl
    held := stands.holds
    main := stands.main
    backup := stands.backup
    windows := stands.windows
    startS := stands.startS
    endE := stands.endE
    useCounts := quiet.useCounts
    enabled := enabled }

/-- ON_AIR entry of a booking that has not passed through PREROLL claims the sources (R116). -/
theorem State.enterOnAir_claim (n : Nat) : ClaimStep i s (s.enterOnAir i true n) := by
  have entry := s.enterOnAir_booking i true n
  obtain ⟨_, _, useCounts, sources, _, calendar, settlements⟩ := s.enterOnAir_tables i true n
  exact {
    calendar := calendar
    settlements := settlements
    sources := sources
    others := fun j other => (s.enterOnAir_othersStand i true n j other).1
    live := by rw [entry, pending]; rfl
    unheld := by rw [pending]; rfl
    held := by rw [entry]; rfl
    main := by rw [entry]; rfl
    backup := by rw [entry]; rfl
    windows := by rw [entry]; rfl
    startS := by rw [entry]; rfl
    endE := by rw [entry]; rfl
    useCounts := useCounts
    enabled := enabled }

end Claim

/-- ON_AIR entry from PREROLL finds the sources claimed (R116). -/
theorem State.enterOnAir_bookingFrame {i : Fin 256} {s : State} (preroll : s.bookings[i].state = .preroll) (n : Nat) :
    BookingFrame s (s.enterOnAir i false n) := by
  have entry := s.enterOnAir_booking i false n
  obtain ⟨_, _, useCounts, sources, _, calendar, settlements⟩ := s.enterOnAir_tables i false n
  refine .ofBookings (fun j => ?_) calendar useCounts settlements sources
  by_cases same : j = i
  · subst same
    rw [entry]
    exact ⟨by rw [preroll]; rfl, by rw [preroll]; rfl, rfl, rfl, rfl, rfl, rfl⟩
  · exact .of_eq (s.enterOnAir_othersStand i false n j same).1

end Sys2Proof.Machine


namespace Sys2Proof.Machine

/-! ## BOOK: the reading of the entry and the checks (R109, R110) -/

/-! ### The fields (Table 9-7) -/

theorem protectionOf?_eq_some_iff {n : Nat} {m : Protection} : protectionOf? n = some m ↔ n = m.code := by
  unfold protectionOf?
  split
  · cases m <;> simp [Protection.code]
  · cases m <;> simp [Protection.code]
  · cases m <;> simp [Protection.code]
  · cases m <;> simpa [Protection.code]

theorem protectionOf?_exists_iff {n : Nat} : (∃ m, protectionOf? n = some m) ↔ n ≤ 2 := by
  simp only [protectionOf?_eq_some_iff]
  refine ⟨fun ⟨m, code⟩ => ?_, fun small => ?_⟩
  · cases m <;> simp [code, Protection.code]
  · interval_cases n
    · exact ⟨.none, rfl⟩
    · exact ⟨.switch, rfl⟩
    · exact ⟨.merge, rfl⟩

/-- NONE is 255, which is no source's number. -/
theorem backupOf?_eq_some_iff {n : Nat} {x : Option (Fin 48)} :
    backupOf? n = some x ↔ (x = none ∧ n = 255) ∨ ∃ i, x = some i ∧ i.val = n := by
  unfold backupOf?
  split
  · next absent =>
    have outside : ¬∃ i : Fin 48, x = some i ∧ i.val = n := fun ⟨i, _, same⟩ => by omega
    rw [Option.some.injEq, or_iff_left outside]
    exact ⟨fun same => ⟨same.symm, absent⟩, fun same => same.1.symm⟩
  · next present =>
    simp only [Option.map_eq_some_iff, indexOf?_eq_some_iff, present, and_false, false_or]
    exact exists_congr fun i => ⟨fun ⟨same, named⟩ => ⟨named.symm, same⟩, fun ⟨named, same⟩ => ⟨same, named.symm⟩⟩

theorem backupOf?_exists_iff {n : Nat} : (∃ x, backupOf? n = some x) ↔ n ≤ 47 ∨ n = 255 := by
  simp only [backupOf?_eq_some_iff]
  constructor
  · rintro ⟨x, ⟨_, absent⟩ | ⟨i, _, same⟩⟩
    · exact Or.inr absent
    · exact Or.inl (by omega)
  · rintro (inside | absent)
    · exact ⟨some ⟨n, by omega⟩, Or.inr ⟨_, rfl, rfl⟩⟩
    · exact ⟨none, Or.inl ⟨rfl, absent⟩⟩

theorem mapM_indexOf?_eq_some_iff {k : Nat} {l : List Nat} {ws : List (Fin k)} :
    l.mapM (indexOf? k) = some ws ↔ ws.map Fin.val = l := by
  induction l generalizing ws with
  | nil =>
    rw [List.mapM_nil, List.map_eq_nil_iff]
    exact ⟨fun same => (Option.some.inj same).symm, fun same => congrArg some same.symm⟩
  | cons n l ih =>
    rw [List.mapM_cons]
    cases read : indexOf? k n with
    | none =>
      refine ⟨nofun, fun same => ?_⟩
      cases ws with
      | nil => cases same
      | cons w ws =>
        cases read.symm.trans (indexOf?_eq_some_iff.2 (List.cons.inj same).1)
    | some i =>
      have value := indexOf?_eq_some_iff.1 read
      cases rest : l.mapM (indexOf? k) with
      | none =>
        refine ⟨nofun, fun same => ?_⟩
        cases ws with
        | nil => cases same
        | cons w ws => cases rest.symm.trans (ih.2 (List.cons.inj same).2)
      | some vs =>
        have values := ih.1 rest
        refine ⟨fun same => ?_, fun same => ?_⟩
        · cases same
          rw [List.map_cons, value, values]
        · refine congrArg some (List.map_injective_iff.2 Fin.val_injective ?_)
          rw [same, List.map_cons, value, values]

/-- The window list is the numbers of its bytes, one to four and distinct (R109). -/
theorem windowsOf?_eq_some_iff {e : List Byte} {n : Nat} {ws : List (Fin 32)} : windowsOf? e n = some ws ↔
    (1 ≤ n ∧ n ≤ 4) ∧ ws.Nodup ∧
      ws.map (fun w => w.val) = (List.range n).map fun i => field e (0x10 + i) 1 := by
  have count : (decide (1 ≤ n) && decide (n ≤ 4)) = true ↔ 1 ≤ n ∧ n ≤ 4 := by
    rw [Bool.and_eq_true, decide_eq_true_iff, decide_eq_true_iff]
  unfold windowsOf?
  rw [← mapM_indexOf?_eq_some_iff]
  split
  · next inside =>
    split
    · next vs read =>
      rw [read, Option.some.injEq]
      split
      · next distinct =>
        rw [Option.some.injEq]
        exact ⟨fun same => ⟨count.1 inside, same ▸ distinct, same⟩, fun ⟨_, _, same⟩ => same⟩
      · next repeated => exact ⟨nofun, fun ⟨_, distinct, same⟩ => absurd (same ▸ distinct) repeated⟩
    · next unread => exact ⟨nofun, fun ⟨_, _, read⟩ => nomatch unread.symm.trans read⟩
  · next outside => exact ⟨nofun, fun ⟨inside, _⟩ => absurd (count.2 inside) outside⟩

theorem exists_map_val_eq {k : Nat} {l : List Nat} (inside : ∀ n ∈ l, n < k) :
    ∃ ws : List (Fin k), ws.map (fun w => w.val) = l := by
  have values : l ∈ Set.range (List.map (Fin.val : Fin k → Nat)) := by
    rw [Set.range_list_map]
    exact fun n mem => ⟨⟨n, inside n mem⟩, rfl⟩
  exact values

theorem windowsOf?_exists_iff {e : List Byte} {n : Nat} : (∃ ws, windowsOf? e n = some ws) ↔
    1 ≤ n ∧ n ≤ 4 ∧ (∀ i, i < n → field e (0x10 + i) 1 ≤ 31) ∧
      ∀ i j, i < j → j < n → field e (0x10 + i) 1 ≠ field e (0x10 + j) 1 := by
  have distinct : ((List.range n).map fun i => field e (0x10 + i) 1).Nodup ↔
      ∀ i j, i < j → j < n → field e (0x10 + i) 1 ≠ field e (0x10 + j) 1 := by
    rw [List.Nodup, List.pairwise_map, List.pairwise_iff_getElem]
    simp only [List.length_range, List.getElem_range]
    exact ⟨fun h i j less last => h i j (less.trans last) last less, fun h i j _ last less => h i j less last⟩
  have bounded : (∀ i, i < n → field e (0x10 + i) 1 ≤ 31) ↔
      ∀ x ∈ (List.range n).map fun i => field e (0x10 + i) 1, x < 32 := by
    simp only [List.mem_map, List.mem_range, forall_exists_index, and_imp, forall_apply_eq_imp_iff₂]
    exact forall₂_congr fun _ _ => Nat.lt_succ_iff.symm
  simp only [windowsOf?_eq_some_iff, bounded, ← distinct]
  constructor
  · rintro ⟨ws, ⟨low, high⟩, nodup, values⟩
    rw [← values]
    refine ⟨low, high, fun x mem => ?_, nodup.map Fin.val_injective⟩
    obtain ⟨w, _, rfl⟩ := List.mem_map.1 mem
    exact w.isLt
  · rintro ⟨low, high, inside, nodup⟩
    obtain ⟨ws, values⟩ := exists_map_val_eq inside
    exact ⟨ws, ⟨low, high⟩, .of_map _ (values ▸ nodup), values⟩

/-- The rules that tie the fields of a BOOK together (R109). -/
theorem BookOrder.consistent_iff (o : BookOrder) : o.consistent = true ↔
    o.startS < 2 ^ 40 ∧ o.endE < 2 ^ 40 ∧ o.startS < o.endE ∧ o.endE - o.startS ≤ 86400000 ∧ o.maxOver ≤ 7200000 ∧
      o.wtr ≤ 600000 ∧ (o.mode = .none → o.backup = none) ∧
      (o.mode ≠ .none → o.backup ≠ none ∧ o.backup ≠ some o.main) ∧
      (o.mode ≠ .switch → o.revert = false ∧ o.wtr = 0) := by
  simp only [BookOrder.consistent, Bool.and_eq_true, decide_eq_true_iff, and_assoc, Config.bookedMax]
  cases o.mode <;> simp [Option.isSome_iff_ne_none, and_assoc]

/-- The entry reads as an order when its fields are in range and agree, and the order is its fields. -/
theorem bookOrder?_eq_some_iff {e : List Byte} {o : BookOrder} : bookOrder? e = some o ↔
    (indexOf? 16 (field e 0x08 1) = some o.cls ∧ indexOf? 48 (field e 0x09 1) = some o.main ∧
      backupOf? (field e 0x0A 1) = some o.backup ∧ protectionOf? (field e 0x0B 1) = some o.mode ∧
      flagOf? (field e 0x0C 1) = some o.revert ∧ flagOf? (field e 0x0D 1) = some o.holdOn ∧
      windowsOf? e (field e 0x0E 1) = some o.windows) ∧
    o.consistent = true ∧ o.wtr = field e 0x14 4 ∧ o.maxOver = field e 0x18 4 ∧ o.account = word32At e 0x1C ∧
      o.matchRef = word32At e 0x20 ∧ o.startS = field e 0x28 8 ∧ o.endE = field e 0x30 8 := by
  unfold bookOrder?
  split
  · next cls main backup mode revert holdOn windows read1 read2 read3 read4 read5 read6 read7 =>
    dsimp only
    simp only [read1, read2, read3, read4, read5, read6, read7, Option.some.injEq]
    split
    · next agrees =>
      rw [Option.some.injEq]
      refine ⟨fun same => ?_, fun h => ?_⟩
      · subst same
        exact ⟨⟨rfl, rfl, rfl, rfl, rfl, rfl, rfl⟩, agrees, rfl, rfl, rfl, rfl, rfl, rfl⟩
      · obtain ⟨⟨rfl, rfl, rfl, rfl, rfl, rfl, rfl⟩, _, wtr, maxOver, account, matchRef, startS, endE⟩ := h
        rw [← wtr, ← maxOver, ← account, ← matchRef, ← startS, ← endE]
    · next clash =>
      refine ⟨nofun, fun h => ?_⟩
      obtain ⟨⟨rfl, rfl, rfl, rfl, rfl, rfl, rfl⟩, agrees, wtr, maxOver, account, matchRef, startS, endE⟩ := h
      rw [← wtr, ← maxOver, ← account, ← matchRef, ← startS, ← endE] at clash
      exact absurd agrees clash
  · next unread =>
    exact ⟨nofun, fun ⟨⟨r1, r2, r3, r4, r5, r6, r7⟩, _⟩ => (unread _ _ _ _ _ _ _ r1 r2 r3 r4 r5 r6 r7).elim⟩

/-! ### The checks of R110 -/

theorem State.conflicts_iff (s : State) (o : BookOrder) : s.conflicts o = true ↔
    ∃ w ∈ o.windows, ∃ x ∈ s.calendar[w], max o.startS s.time.house < x.endE ∧ x.startS < o.endE := by
  simp only [State.conflicts, List.any_eq_true, overlaps, Bool.and_eq_true, decide_eq_true_iff]
  rfl

theorem State.freeEntry_eq_some_iff {s : State} {i : Fin 256} : s.freeEntry = some i ↔
    s.bookings[i].state = .free ∧ ∀ j, j < i → s.bookings[j].state ≠ .free := by
  rw [State.freeEntry, List.find?_eq_some_iff_getElem]
  simp only [beq_iff_eq, List.length_finRange, List.getElem_finRange, Fin.cast_mk, Bool.not_eq_true',
    beq_eq_false_iff_ne]
  refine and_congr_right fun _ => ⟨?_, fun before => ⟨i.val, i.isLt, rfl, fun j less => ?_⟩⟩
  · rintro ⟨n, inside, rfl, before⟩ j less
    exact before j.val less
  · exact before ⟨j, less.trans i.isLt⟩ less

theorem State.freeEntry_eq_none_iff {s : State} : s.freeEntry = none ↔ ∀ i : Fin 256, s.bookings[i].state ≠ .free := by
  simp [State.freeEntry]

/-- The six checks in their order (R110). -/
theorem State.bookCheck_eq (s : State) (o : BookOrder) : s.bookCheck o =
    if ¬s.tariffs[o.cls].defined = true then .error .noTariff
    else if ¬∀ x ∈ o.sources, s.sources[x].enabled = true then .error .noSource
    else if ¬∀ w ∈ o.windows, s.windows[w].defined = true then .error .noWindow
    else if o.endE ≤ s.time.house then .error .tooLate
    else match s.freeEntry with
      | none => .error .tableFull
      | some i => if s.conflicts o = true then .error .conflict else .ok i := by
  simp only [← List.all_eq_true, Bool.not_eq_true, ← Bool.not_eq_true']
  rfl

/-- A booking is accepted when the six checks pass, in the FREE entry of lowest index (R110, R111). -/
theorem State.bookCheck_eq_ok_iff {s : State} {o : BookOrder} {i : Fin 256} : s.bookCheck o = .ok i ↔
    s.tariffs[o.cls].defined = true ∧ (∀ x ∈ o.sources, s.sources[x].enabled = true) ∧
      (∀ w ∈ o.windows, s.windows[w].defined = true) ∧ s.time.house < o.endE ∧ s.freeEntry = some i ∧
      s.conflicts o = false := by
  rw [State.bookCheck_eq]
  constructor
  · intro check
    repeat' split at check
    case h_2.isFalse tariff sources windows time _ j entry apart =>
      cases check
      exact ⟨not_not.1 tariff, not_not.1 sources, not_not.1 windows, Nat.lt_of_not_le time, entry,
        Bool.eq_false_iff.2 apart⟩
    all_goals cases check
  · rintro ⟨tariff, sources, windows, time, entry, apart⟩
    rw [if_neg (not_not.2 tariff), if_neg (not_not.2 sources), if_neg (not_not.2 windows), if_neg (Nat.not_le.2 time),
      entry, apart]
    rfl

end Sys2Proof.Machine


namespace Sys2Proof.Machine

/-! ### Every step keeps a property of the booking table -/

/-- A property of the bookings, the calendar and the use counts that each place where they change keeps. It holds of
the tables of RESET, and lets closed bookings alone wait for their settlement. -/
structure BookingInvariant (P : State → Prop) : Prop where
  closed : ∀ {s : State}, P s → s.closedListed
  frame : ∀ {s t : State}, BookingFrame s t → P s → P t
  closing : ∀ {s : State} (i : Fin 256) (r : EndReason) (w : Bool), P s → P (s.closing i r w)
  claim : ∀ {i : Fin 256} {s t : State}, ClaimStep i s t → P s → P t
  record : ∀ {s : State} {e : List Byte} {o : BookOrder} {i : Fin 256}, i ∉ s.settlements → bookOrder? e = some o →
    s.bookCheck o = .ok i → P s → P (s.recordBooking i o)
  extend : ∀ {s : State} {i : Fin 256} {x : Nat}, s.bookings[i].state.live = true →
    s.bookings[i].endE < s.grantedEnd i x → P s → P (s.extendBooking i (s.grantedEnd i x))
  reset : P State.reset

namespace BookingInvariant

variable {P : State → Prop} (inv : BookingInvariant P)

include inv

theorem settlementEnter {s : State} (hs : P s) : P s.settlementEnter :=
  inv.frame (State.settlementEnter_bookingFrame (inv.closed hs)) hs

theorem closeBooking (i : Fin 256) (r : EndReason) (w : Bool) {s : State} (hs : P s) : P (s.closeBooking i r w) := by
  have enters : ∀ (n : Nat) {s : State}, P s → P (s.settlementsEnter n) := by
    intro n
    induction n with
    | zero => exact id
    | succ n ih => exact fun hs => ih (inv.settlementEnter hs)
  exact enters _ (inv.closing i r w hs)

theorem closeBookings {α : Type} (i : α → Fin 256) (r : State → α → EndReason) (w : Bool) (l : List α) {s : State}
    (hs : P s) : P (l.foldl (fun s x => s.closeBooking (i x) (r s x) w) s) := by
  induction l generalizing s with
  | nil => exact hs
  | cons x l ih => exact ih (inv.closeBooking _ _ _ hs)

theorem cancelBooking (i : Fin 256) (w : Bool) {s : State} (hs : P s) : P (s.cancelBooking i w) :=
  inv.closeBooking i .cancelled w
    (inv.frame (.modBooking (f := fun b => { b with cancelTime := some s.now }) ⟨rfl, rfl, rfl, rfl, rfl, rfl, rfl⟩) hs)

theorem clearWindows (i : Fin 256) {s : State} (hs : P s) : P (s.clearWindows i) :=
  inv.closeBookings id (fun s a => yieldReason s.bookings[a]) false _ hs

theorem haltBookings {s : State} (hs : P s) : P s.haltBookings :=
  inv.closeBookings id (fun _ _ => .halted) false _ hs

/-- A booking starts from PREROLL, or at once when its sources are enabled (R111, R115, R116). -/
theorem startBooking {i : Fin 256} {fresh : Bool} {s : State}
    (state : s.bookings[i].state = if fresh then .pending else .preroll)
    (enabled : fresh = true → ∀ x ∈ s.bookings[i].sources, s.sources[x].enabled = true) (hs : P s) :
    P (s.startBooking i fresh) := by
  have live : s.bookings[i].state.live = true := by rw [state]; cases fresh <;> rfl
  have kept := (s.clearWindows_entryStands i).of_live (inv.closed hs) live
  have cleared := inv.clearWindows i hs
  cases fresh with
  | false =>
    refine inv.frame (State.enterOnAir_bookingFrame ?_ _) cleared
    rw [kept]
    exact state
  | true =>
    refine inv.claim (State.enterOnAir_claim ?_ ?_ _) cleared
    · rw [kept]
      exact state
    · rw [kept, (s.clearWindows_sourceFrame i).sources]
      exact enabled rfl

theorem firstState {i : Fin 256} {s : State} (state : s.bookings[i].state = .pending)
    (enabled : ∀ x ∈ s.bookings[i].sources, s.sources[x].enabled = true) (hs : P s) : P (s.firstState i) := by
  unfold State.firstState
  dsimp only
  split
  · exact inv.startBooking state (fun _ => enabled) hs
  · split
    · exact inv.claim (State.enterPreroll_claim state enabled) hs
    · exact inv.frame (.modBooking ⟨rfl, rfl, rfl, rfl, rfl, rfl, rfl⟩) hs

theorem bookOrder (e : List Byte) (n : Nat) {s : State} (settlement : s.settlementLaw) (hs : P s) :
    P (Machine.bookOrder e n s).1 := by
  unfold Machine.bookOrder
  split
  · exact hs
  · next o reads =>
    split
    · exact hs
    · next i check =>
      have free := State.free_of_bookCheck check
      have unlisted : i ∉ s.settlements := fun mem => nomatch free.symm.trans ((settlement.2 i).1.1 mem)
      have entry : (s.recordBooking i o).bookings[i] =
          s.bookings[i].accepted o (o.effectiveStart s.now) s.tariffs[o.cls] :=
        State.modBooking_same i (·.accepted o (o.effectiveStart s.now) s.tariffs[o.cls]) s
      refine inv.firstState ?_ ?_ (inv.record unlisted reads check hs)
      · rw [entry]
        rfl
      · rw [entry]
        exact (State.bookCheck_eq_ok_iff.1 check).2.1

theorem extendOrder (e : List Byte) (n : Nat) {s : State} (hs : P s) : P (Machine.extendOrder e n s).1 := by
  unfold Machine.extendOrder
  dsimp only
  repeat' split
  case isFalse.isFalse.isFalse.isFalse live granted =>
    exact inv.extend (by simpa using live) (Nat.lt_of_not_le granted) hs
  all_goals exact hs

theorem releaseOrder (e : List Byte) (n : Nat) {s : State} (hs : P s) : P (Machine.releaseOrder e n s).1 := by
  unfold Machine.releaseOrder
  dsimp only
  repeat' split
  case isFalse.isTrue => exact inv.closeBooking _ _ _ hs
  all_goals exact hs

theorem cancelOrder (e : List Byte) (n : Nat) {s : State} (hs : P s) : P (Machine.cancelOrder e n s).1 := by
  unfold Machine.cancelOrder
  dsimp only
  repeat' split
  case h_1 | h_2 => exact inv.cancelBooking _ _ hs
  all_goals exact hs

theorem takePreroll (i : Fin 256) {s : State} (hs : P s) : P (s.takePreroll i) := by
  unfold State.takePreroll
  split
  · next due =>
    split
    · exact inv.cancelBooking i _ hs
    · next enabled =>
      refine inv.claim (State.enterPreroll_claim due.1 fun x mem => ?_) hs
      by_contra off
      exact enabled (List.any_eq_true.2 ⟨x, mem, by simpa using off⟩)
  · exact hs

theorem takeStart (i : Fin 256) {s : State} (hs : P s) : P (s.takeStart i) := by
  unfold State.takeStart
  split
  · next due => exact inv.startBooking due.1 nofun hs
  · exact hs

theorem takeEnd (i : Fin 256) {s : State} (hs : P s) : P (s.takeEnd i) := by
  unfold State.takeEnd
  split
  · next due =>
    split
    · exact inv.frame (State.enterOverrun_bookingFrame due.1) hs
    · exact inv.closeBooking i _ _ hs
  · exact hs

theorem takeCap (i : Fin 256) {s : State} (hs : P s) : P (s.takeCap i) := by
  unfold State.takeCap
  split
  · exact inv.closeBooking i _ _ hs
  · exact hs

theorem tableInvariant : TableInvariant P where
  frame hs same := inv.frame (.ofTables same) hs
  judged src k v _ hs := inv.frame (State.judged_bookingFrame src k v _) hs
  silence i hs := inv.frame (State.takeSilence_bookingFrame i _) hs
  interval hs := inv.frame (State.clearIntervals_bookingFrame _) hs
  read t w k off hs := inv.frame (State.windowRead_bookingFrame t w k off _) hs
  define _ unused hs := inv.frame (State.defineSource_bookingFrame unused) hs
  clear i hs := inv.frame (State.clearSource_bookingFrame i _) hs
  forceLeg i f hs := inv.frame (State.forceLeg_quiet i f _).bookingFrame hs
  book e n settlement hs := inv.bookOrder e n settlement hs
  extend e n hs := inv.extendOrder e n hs
  release e n hs := inv.releaseOrder e n hs
  cancel e n hs := inv.cancelOrder e n hs
  window e n hs := inv.frame (defineWindowOrder_bookingFrame e n _) hs
  house new _ hs := inv.frame (State.setHouse_bookingFrame new _) hs
  halt hs := inv.haltBookings hs
  settle hs := inv.settlementEnter hs
  restore i hs := inv.frame (State.takeRestore_bookingFrame i _) hs
  preroll i hs := inv.takePreroll i hs
  lineWait i hs := inv.frame (State.takeLineWait_bookingFrame i _) hs
  start i hs := inv.takeStart i hs
  finish i hs := inv.takeEnd i hs
  cap i hs := inv.takeCap i hs
  reset same := inv.frame (.ofTables same) inv.reset
  cleared d same := inv.frame ((BookingFrame.ofCleared d _).trans (.ofTables same)) inv.reset

end BookingInvariant

end Sys2Proof.Machine


namespace Sys2Proof.Machine

/-! ### The use counts (R108) -/

theorem Booking.names_iff (b : Booking) (x : Fin 48) : b.names x = true ↔ x = b.main ∨ b.backup = some x := by
  rw [Booking.names, Bool.or_eq_true, beq_iff_eq, beq_iff_eq]
  exact or_congr_left eq_comm

/-- The booking holds the source (R108). -/
def Booking.uses (b : Booking) (x : Fin 48) : Bool := b.state.holdsSources && b.names x

theorem Booking.uses_of_unheld {b : Booking} (unheld : b.state.holdsSources = false) (x : Fin 48) :
    b.uses x = false := by
  rw [Booking.uses, unheld, Bool.false_and]

theorem State.users_eq (s : State) (x : Fin 48) :
    s.users x = (List.finRange 256).filter fun i => s.bookings[i].uses x := rfl

/-- Two filters of a list without repetition that differ at one entry alone, which the second leaves out. -/
theorem length_filter_eq_add {l : List (Fin 256)} (nodup : l.Nodup) {p q : Fin 256 → Bool} {i : Fin 256}
    (others : ∀ j, j ≠ i → p j = q j) (out : q i = false) :
    (l.filter p).length = (l.filter q).length + if i ∈ l ∧ p i = true then 1 else 0 := by
  induction l with
  | nil => simp
  | cons j l ih =>
    obtain ⟨fresh, nodup⟩ := List.nodup_cons.1 nodup
    have rest := ih nodup
    by_cases same : j = i
    · subst same
      rw [if_neg (fun h => fresh h.1), Nat.add_zero] at rest
      cases kept : p j <;> simp [kept, out, rest]
    · have mem : i ∈ j :: l ↔ i ∈ l := by simp [Ne.symm same]
      rw [List.filter_cons, List.filter_cons, others j same]
      split
      · simp only [List.length_cons, rest, mem]
        omega
      · simp only [rest, mem]

/-- A booking more that holds the source. -/
theorem State.users_length_eq_add {s t : State} {i : Fin 256}
    (others : ∀ (j : Fin 256), j ≠ i → ∀ x, t.bookings[j].uses x = s.bookings[j].uses x)
    (unheld : s.bookings[i].state.holdsSources = false) (x : Fin 48) :
    (t.users x).length = (s.users x).length + if t.bookings[i].uses x = true then 1 else 0 := by
  rw [State.users_eq, State.users_eq, length_filter_eq_add (List.nodup_finRange 256) (fun j other => others j other x)
    (Booking.uses_of_unheld unheld x)]
  simp only [List.mem_finRange, true_and]

/-- A use count is lowered once for each time the list names its source. -/
theorem lowerUse_getElem (xs : List (Fin 48)) (v : Vector Nat 48) (x : Fin 48) :
    (lowerUse xs v)[x] = v[x] - xs.count x := by
  induction xs generalizing v with
  | nil => simp [lowerUse]
  | cons y xs ih =>
    refine (ih (v.set y (v[y] - 1))).trans ?_
    by_cases same : y = x
    · subst same
      simp only [Fin.getElem_fin, Vector.getElem_set_self, List.count_cons_self]
      omega
    · have other : y.val ≠ x.val := fun e => same (Fin.ext e)
      simp [other, same]

theorem Booking.count_sources {b : Booking} (distinct : b.backup ≠ some b.main) (x : Fin 48) :
    b.sources.count x = if b.names x = true then 1 else 0 := by
  have raised := raiseUse_sources distinct (Vector.replicate 48 0) x
  rw [raiseUse_getElem] at raised
  simpa [Booking.names_iff] using raised

/-- A booking that names two different sources lowers each count by one (R108). -/
theorem lowerUse_sources {b : Booking} (distinct : b.backup ≠ some b.main) (v : Vector Nat 48) (x : Fin 48) :
    (lowerUse b.sources v)[x] = if x = b.main ∨ b.backup = some x then v[x] - 1 else v[x] := by
  simp only [lowerUse_getElem, Booking.count_sources distinct, Booking.names_iff]
  split <;> rfl

/-- The users of a source are those entries that use it, whatever else they say. -/
theorem State.users_congr {s t : State} {x : Fin 48}
    (same : ∀ i : Fin 256, t.bookings[i].uses x = s.bookings[i].uses x) : t.users x = s.users x :=
  List.filter_congr fun i _ => same i

theorem Booking.Stands.uses {b c : Booking} (h : b.Stands c) (x : Fin 48) : c.uses x = b.uses x := by
  rw [Booking.uses, h.holds, h.names, Booking.uses]

theorem BookingFrame.useLaw {s t : State} (h : BookingFrame s t) (law : s.useLaw) : t.useLaw := by
  obtain ⟨counts, distinct⟩ := law
  refine ⟨fun x => ?_, fun i => ?_⟩
  · obtain ⟨exact_, on⟩ := counts x
    rw [h.useCounts, State.users_congr fun i => (h.bookings i).uses x]
    exact ⟨exact_, fun used => h.enabled x used (on used)⟩
  · rw [(h.bookings i).main, (h.bookings i).backup]
    exact distinct i

section Closing

variable (i : Fin 256) (r : EndReason) (w : Bool) (s : State)

theorem State.closing_booking : (s.closing i r w).bookings[i] = s.bookings[i].closed i r w s.now :=
  State.modBooking_same i (fun b => b.closed i r w s.now) s

theorem State.closing_booking_other {j : Fin 256} (other : j ≠ i) : (s.closing i r w).bookings[j] = s.bookings[j] :=
  State.modBooking_other other.symm (fun b => b.closed i r w s.now) s

theorem State.closing_useCount (distinct : s.bookings[i].backup ≠ some s.bookings[i].main) (x : Fin 48) :
    (s.closing i r w).useCounts[x] = s.useCounts[x] - if s.bookings[i].uses x = true then 1 else 0 := by
  have lowered : (s.closing i r w).useCounts =
      if s.bookings[i].state.holdsSources then lowerUse s.bookings[i].sources s.useCounts else s.useCounts := rfl
  rw [lowered, Booking.uses]
  cases s.bookings[i].state.holdsSources with
  | false => rfl
  | true => exact (lowerUse_getElem _ _ x).trans (by rw [Booking.count_sources distinct]; rfl)

theorem State.closing_closedListed {s : State} (closed : s.closedListed) : (s.closing i r w).closedListed := by
  intro j mem
  by_cases same : j = i
  · subst same
    rw [State.closing_booking]
    rfl
  · rw [State.closing_booking_other i r w s same]
    exact closed j ((List.mem_append.1 mem).resolve_right fun last => same (List.mem_singleton.1 last))

/-- The close gives back what the booking held (R108, R124). -/
theorem State.closing_useLaw {s : State} (law : s.useLaw) : (s.closing i r w).useLaw := by
  obtain ⟨counts, distinct⟩ := law
  refine ⟨fun x => ?_, fun j => ?_⟩
  · obtain ⟨number, on⟩ := counts x
    have unheld : (s.closing i r w).bookings[i].state.holdsSources = false := by
      rw [State.closing_booking]
      rfl
    have users := State.users_length_eq_add (s := s.closing i r w) (t := s) (i := i)
      (fun j other x => by rw [State.closing_booking_other i r w s other]) unheld x
    have sources : (s.closing i r w).sources = s.sources := rfl
    rw [State.closing_useCount i r w s (distinct i), sources]
    exact ⟨by omega, fun used => on (by omega)⟩
  · by_cases same : j = i
    · subst same
      rw [State.closing_booking]
      exact distinct j
    · rw [State.closing_booking_other i r w s same]
      exact distinct j

end Closing

section Claimed

variable {i : Fin 256} {s t : State} (h : ClaimStep i s t)

include h

theorem ClaimStep.closedListed (closed : s.closedListed) : t.closedListed := by
  intro j mem
  have before := closed j (h.settlements ▸ mem)
  by_cases same : j = i
  · subst same
    exact h.live.trans before
  · rw [h.others j same]
    exact before

theorem ClaimStep.useLaw (law : s.useLaw) : t.useLaw := by
  obtain ⟨counts, distinct⟩ := law
  refine ⟨fun x => ?_, fun j => ?_⟩
  · obtain ⟨number, on⟩ := counts x
    have users := State.users_length_eq_add (fun j other x => by rw [h.others j other]) h.unheld x
    have names : t.bookings[i].uses x = s.bookings[i].names x := by
      rw [Booking.uses, h.held, Booking.names, h.main, h.backup, Bool.true_and, Booking.names]
    rw [h.useCounts, raiseUse_getElem, Booking.count_sources (distinct i), h.sources, users, names, number]
    refine ⟨rfl, fun used => ?_⟩
    by_cases named : s.bookings[i].names x = true
    · refine h.enabled x (List.count_pos_iff.1 ?_)
      rw [Booking.count_sources (distinct i), if_pos named]
      exact Nat.one_pos
    · rw [if_neg named] at used
      exact on (number ▸ used)
  · by_cases same : j = i
    · subst same
      rw [h.main, h.backup]
      exact distinct j
    · rw [h.others j same]
      exact distinct j

end Claimed

/-- A booking that is accepted names two different sources, if it names two (R109). -/
theorem bookOrder?_distinct {e : List Byte} {o : BookOrder} (reads : bookOrder? e = some o) :
    o.backup ≠ some o.main := by
  obtain ⟨_, agrees, _⟩ := bookOrder?_eq_some_iff.1 reads
  obtain ⟨_, _, _, _, _, _, single, double, _⟩ := o.consistent_iff.1 agrees
  by_cases mode : o.mode = .none
  · rw [single mode]
    nofun
  · exact (double mode).2

section Record

variable {s : State} {i : Fin 256} {o : BookOrder}

theorem State.recordBooking_booking (i : Fin 256) (o : BookOrder) (s : State) : (s.recordBooking i o).bookings[i] =
    s.bookings[i].accepted o (o.effectiveStart s.now) s.tariffs[o.cls] :=
  State.modBooking_same i (·.accepted o (o.effectiveStart s.now) s.tariffs[o.cls]) s

theorem State.recordBooking_booking_other {j : Fin 256} (other : j ≠ i) (o : BookOrder) (s : State) :
    (s.recordBooking i o).bookings[j] = s.bookings[j] :=
  State.modBooking_other other.symm (·.accepted o (o.effectiveStart s.now) s.tariffs[o.cls]) s

theorem State.recordBooking_closedListed (unlisted : i ∉ s.settlements) (closed : s.closedListed) :
    (s.recordBooking i o).closedListed := by
  intro j mem
  have other : j ≠ i := by
    rintro rfl
    exact unlisted mem
  rw [State.recordBooking_booking_other other]
  exact closed j mem

/-- A FREE entry holds no source, and neither does the booking it takes (R108, R111). -/
theorem State.recordBooking_useLaw (free : s.bookings[i].state = .free) (distinct : o.backup ≠ some o.main)
    (law : s.useLaw) : (s.recordBooking i o).useLaw := by
  obtain ⟨counts, before⟩ := law
  refine ⟨fun x => ?_, fun j => ?_⟩
  · have users : (s.recordBooking i o).users x = s.users x := by
      refine State.users_congr fun j => ?_
      by_cases same : j = i
      · subst same
        rw [State.recordBooking_booking, Booking.uses_of_unheld rfl, Booking.uses_of_unheld (by rw [free]; rfl)]
      · rw [State.recordBooking_booking_other same]
    rw [users]
    exact counts x
  · by_cases same : j = i
    · subst same
      rw [State.recordBooking_booking]
      exact distinct
    · rw [State.recordBooking_booking_other same]
      exact before j

end Record

section Extend

variable {s : State} {i : Fin 256}

theorem Booking.extended_stands (b : Booking) (e now : Nat) : { b with endE := e }.Stands (b.extended e now) := by
  cases state : b.state <;> simp only [Booking.extended, state]
  case overrun => split <;> exact ⟨rfl, rfl, rfl, rfl, rfl, rfl, rfl⟩
  all_goals exact ⟨rfl, rfl, rfl, rfl, rfl, rfl, rfl⟩

theorem State.extendBooking_booking (i : Fin 256) (e : Nat) (s : State) :
    (s.extendBooking i e).bookings[i] = s.bookings[i].extended e s.now :=
  State.modBooking_same i (·.extended e s.now) s

theorem State.extendBooking_booking_other {j : Fin 256} (other : j ≠ i) (e : Nat) (s : State) :
    (s.extendBooking i e).bookings[j] = s.bookings[j] :=
  State.modBooking_other other.symm (·.extended e s.now) s

theorem State.extendBooking_closedListed (e : Nat) (closed : s.closedListed) : (s.extendBooking i e).closedListed := by
  intro j mem
  by_cases same : j = i
  · subst same
    rw [State.extendBooking_booking, Booking.extended_live]
    exact closed j mem
  · rw [State.extendBooking_booking_other same]
    exact closed j mem

theorem State.extendBooking_useLaw (e : Nat) (law : s.useLaw) : (s.extendBooking i e).useLaw := by
  obtain ⟨counts, distinct⟩ := law
  have entry := s.bookings[i].extended_stands e s.now
  refine ⟨fun x => ?_, fun j => ?_⟩
  · have users : (s.extendBooking i e).users x = s.users x := by
      refine State.users_congr fun j => ?_
      by_cases same : j = i
      · subst same
        rw [State.extendBooking_booking]
        exact entry.uses x
      · rw [State.extendBooking_booking_other same]
    rw [users]
    exact counts x
  · by_cases same : j = i
    · subst same
      rw [State.extendBooking_booking, entry.main, entry.backup]
      exact distinct j
    · rw [State.extendBooking_booking_other same]
      exact distinct j

end Extend

theorem useLaw_bookingInvariant : BookingInvariant fun s => s.useLaw ∧ s.closedListed where
  closed := And.right
  frame h := fun ⟨law, closed⟩ => ⟨h.useLaw law, h.closedListed closed⟩
  closing i r w := fun ⟨law, closed⟩ => ⟨State.closing_useLaw i r w law, State.closing_closedListed i r w closed⟩
  claim h := fun ⟨law, closed⟩ => ⟨h.useLaw law, h.closedListed closed⟩
  record unlisted reads check := fun ⟨law, closed⟩ =>
    ⟨State.recordBooking_useLaw (State.free_of_bookCheck check) (bookOrder?_distinct reads) law,
      State.recordBooking_closedListed unlisted closed⟩
  extend _ _ := fun ⟨law, closed⟩ => ⟨State.extendBooking_useLaw _ law, State.extendBooking_closedListed _ closed⟩
  reset := ⟨State.reset_useLaw, nofun⟩

/-- Settles O59: the counts and the bookings that hold sources change together, at every step. -/
theorem useCountsStayExact : Obligations.UseCountsStayExact := fun _ _ _ settlement law next =>
  (useLaw_bookingInvariant.tableInvariant.step next settlement
    ⟨law, State.closedListed_of_settlementLaw settlement⟩).1

end Sys2Proof.Machine


namespace Sys2Proof.Machine

/-! ### The bounds of an EXTEND (R121) -/

/-- Another booking starts at `t`, at or after the planned end of booking `i`, on a window of it (R121). -/
def State.startsNext (s : State) (i : Fin 256) (t : Nat) : Prop :=
  ∃ w ∈ s.bookings[i].windows, ∃ y ∈ s.calendar[w],
    y.booking ≠ i ∧ s.bookings[i].endE ≤ y.startS ∧ y.startS = t

theorem leastOf_eq_min? (l : List Nat) : leastOf l = l.min? := by
  cases l <;> rfl

theorem State.mem_nextStarts_iff (s : State) (i : Fin 256) (t : Nat) :
    (t ∈ s.bookings[i].windows.flatMap fun w =>
      (s.calendar[w].filter fun x => x.booking != i && s.bookings[i].endE ≤ x.startS).map (·.startS)) ↔
    s.startsNext i t := by
  simp only [State.startsNext, List.mem_flatMap, List.mem_map, List.mem_filter, Bool.and_eq_true, bne_iff_ne,
    decide_eq_true_iff, and_assoc]

theorem State.nextStart_eq_some_iff {s : State} {i : Fin 256} {t : Nat} :
    s.nextStart i = some t ↔ s.startsNext i t ∧ ∀ u, s.startsNext i u → t ≤ u := by
  simp only [← State.mem_nextStarts_iff, State.nextStart, leastOf_eq_min?, List.min?_eq_some_iff]

theorem State.nextStart_eq_none_iff {s : State} {i : Fin 256} : s.nextStart i = none ↔ ∀ t, ¬s.startsNext i t := by
  simp only [← State.mem_nextStarts_iff, State.nextStart, leastOf_eq_min?, List.min?_eq_none_iff,
    List.eq_nil_iff_forall_not_mem]

/-- The granted end is the least of the three bounds (R121). -/
theorem State.grantedEnd_least (s : State) (i : Fin 256) (x : Nat) :
    s.grantedEnd i x ≤ s.bookings[i].endE + x ∧ s.grantedEnd i x ≤ s.bookings[i].startS + 172800000 ∧
      (∀ t, s.startsNext i t → s.grantedEnd i x ≤ t) ∧
      (s.grantedEnd i x = s.bookings[i].endE + x ∨ s.grantedEnd i x = s.bookings[i].startS + 172800000 ∨
        s.startsNext i (s.grantedEnd i x)) := by
  unfold State.grantedEnd
  cases next : s.nextStart i with
  | none =>
    have alone := State.nextStart_eq_none_iff.1 next
    refine ⟨Nat.min_le_left _ _, Nat.min_le_right _ _, fun t starts => absurd starts (alone t), ?_⟩
    rcases Nat.le_total (s.bookings[i].endE + x) (s.bookings[i].startS + 172800000) with less | less
    · exact Or.inl (Nat.min_eq_left less)
    · exact Or.inr (Or.inl (Nat.min_eq_right less))
  | some t =>
    obtain ⟨starts, least⟩ := State.nextStart_eq_some_iff.1 next
    refine ⟨(Nat.min_le_left _ _).trans (Nat.min_le_left _ _), (Nat.min_le_left _ _).trans (Nat.min_le_right _ _),
      fun u later => (Nat.min_le_right _ _).trans (least u later), ?_⟩
    rcases Nat.le_total (min (s.bookings[i].endE + x) (s.bookings[i].startS + 172800000)) t with less | less
    · have own : min (min (s.bookings[i].endE + x) (s.bookings[i].startS + Config.plannedMax)) t = _ :=
        Nat.min_eq_left less
      rcases Nat.le_total (s.bookings[i].endE + x) (s.bookings[i].startS + 172800000) with least | least
      · exact Or.inl (own.trans (Nat.min_eq_left least))
      · exact Or.inr (Or.inl (own.trans (Nat.min_eq_right least)))
    · have other : min (min (s.bookings[i].endE + x) (s.bookings[i].startS + Config.plannedMax)) t = t :=
        Nat.min_eq_right less
      refine Or.inr (Or.inr ?_)
      dsimp only
      rw [other]
      exact starts

/-! ### The calendar (R106, R107) -/

/-- What the calendar says of an item on a window: its booking is live, names the window and is planned for the item's
interval (R106). -/
def State.plans (s : State) (w : Fin 32) (x : CalItem) : Prop :=
  s.bookings[x.booking].state.live ∧ w ∈ s.bookings[x.booking].windows ∧
    x.startS = s.bookings[x.booking].startS ∧ x.endE = s.bookings[x.booking].endE

/-- One item ends before another of another booking begins. -/
def CalItem.Before (x y : CalItem) : Prop := x.booking ≠ y.booking ∧ x.endE ≤ y.startS

/-- A live booking is planned for an interval and names each window once. -/
def Booking.Planned (b : Booking) : Prop := b.state.live → b.startS < b.endE ∧ b.windows.Nodup

theorem State.calendarLaw_iff (s : State) : s.calendarLaw ↔
    (∀ (w : Fin 32) (x : CalItem), x ∈ s.calendar[w] ↔ s.plans w x) ∧
      (∀ w : Fin 32, s.calendar[w].Pairwise CalItem.Before) ∧ ∀ i : Fin 256, s.bookings[i].Planned := Iff.rfl

section Plans

variable {s t : State} {w : Fin 32} {x : CalItem}

theorem State.plans_of_booking {s : State} {w : Fin 32} {x : CalItem} {i : Fin 256} (same : x.booking = i) :
    s.plans w x ↔ s.bookings[i].state.live ∧ w ∈ s.bookings[i].windows ∧
      x.startS = s.bookings[i].startS ∧ x.endE = s.bookings[i].endE := by
  subst same
  exact Iff.rfl

theorem State.plans_congr (same : t.bookings[x.booking] = s.bookings[x.booking]) : t.plans w x ↔ s.plans w x := by
  rw [State.plans, same, State.plans]

theorem Booking.Stands.planned {b c : Booking} (h : b.Stands c) (planned : b.Planned) : c.Planned := by
  unfold Booking.Planned
  rw [h.live, h.startS, h.endE, h.windows]
  exact planned

theorem State.not_plans (closed : s.bookings[x.booking].state.live = false) : ¬s.plans w x :=
  fun plans => Bool.eq_false_iff.1 closed plans.1

end Plans

/-- Tables in which the calendar stands, and each booking as far as it is planned. -/
theorem State.calendarLaw_of_stands {s t : State} (calendar : t.calendar = s.calendar)
    (bookings : ∀ i : Fin 256, s.bookings[i].state.live = t.bookings[i].state.live ∧
      t.bookings[i].windows = s.bookings[i].windows ∧ t.bookings[i].startS = s.bookings[i].startS ∧
      t.bookings[i].endE = s.bookings[i].endE) (law : s.calendarLaw) : t.calendarLaw := by
  obtain ⟨items, order, planned⟩ := law
  refine ⟨fun w x => ?_, by rw [calendar]; exact order, fun i => ?_⟩
  · obtain ⟨live, windows, startS, endE⟩ := bookings x.booking
    rw [calendar, ← live, windows, startS, endE]
    exact items w x
  · obtain ⟨live, windows, startS, endE⟩ := bookings i
    rw [← live, windows, startS, endE]
    exact planned i

theorem BookingFrame.calendarLaw {s t : State} (h : BookingFrame s t) (law : s.calendarLaw) : t.calendarLaw :=
  State.calendarLaw_of_stands h.calendar
    (fun i => ⟨(h.bookings i).live.symm, (h.bookings i).windows, (h.bookings i).startS, (h.bookings i).endE⟩) law

theorem ClaimStep.calendarLaw {i : Fin 256} {s t : State} (h : ClaimStep i s t) (law : s.calendarLaw) :
    t.calendarLaw := by
  refine State.calendarLaw_of_stands h.calendar (fun j => ?_) law
  by_cases same : j = i
  · subst same
    exact ⟨h.live.symm, h.windows, h.startS, h.endE⟩
  · rw [h.others j same]
    exact ⟨rfl, rfl, rfl, rfl⟩

theorem removeItems_getElem (i : Fin 256) (v : Vector (List CalItem) 32) (w : Fin 32) :
    (removeItems i v)[w] = v[w].filter fun x => x.booking != i := Vector.getElem_map ..

/-- The items of a closed booking leave the calendar (R106, R124). -/
theorem State.closing_calendarLaw (i : Fin 256) (r : EndReason) (wd : Bool) {s : State} (law : s.calendarLaw) :
    (s.closing i r wd).calendarLaw := by
  obtain ⟨items, order, planned⟩ := s.calendarLaw_iff.1 law
  have calendar : ∀ w : Fin 32, (s.closing i r wd).calendar[w] = s.calendar[w].filter fun x => x.booking != i :=
    removeItems_getElem i s.calendar
  have closed : (s.closing i r wd).bookings[i].state.live = false := by
    rw [State.closing_booking]
    rfl
  refine (State.calendarLaw_iff _).2 ⟨fun w x => ?_, fun w => ?_, fun j => ?_⟩
  · rw [calendar, List.mem_filter, bne_iff_ne]
    by_cases same : x.booking = i
    · exact iff_of_false (fun h => h.2 same) (State.not_plans (same ▸ closed))
    · rw [State.plans_congr (State.closing_booking_other i r wd s same), ← items w x]
      exact and_iff_left same
  · rw [calendar]
    exact (order w).filter _
  · by_cases same : j = i
    · subst same
      exact fun live => absurd live (Bool.eq_false_iff.1 closed)
    · rw [State.closing_booking_other i r wd s same]
      exact planned j

/-! #### A new item (R106, R110, R111) -/

theorem mem_insertItem {x y : CalItem} (l : List CalItem) : y ∈ insertItem x l ↔ y = x ∨ y ∈ l := by
  induction l with
  | nil => simp [insertItem]
  | cons z l ih =>
    rw [insertItem]
    split
    · exact List.mem_cons
    · rw [List.mem_cons, ih, List.mem_cons]
      exact or_left_comm

/-- An item that overlaps none of another booking's items finds its place among them by its start (R106). -/
theorem insertItem_pairwise {x : CalItem} {l : List CalItem} (order : l.Pairwise CalItem.Before)
    (others : ∀ y ∈ l, y.booking ≠ x.booking) (intervals : ∀ y ∈ l, y.startS < y.endE) (interval : x.startS < x.endE)
    (apart : ∀ y ∈ l, ¬(x.startS < y.endE ∧ y.startS < x.endE)) : (insertItem x l).Pairwise CalItem.Before := by
  induction l with
  | nil => exact List.pairwise_singleton _ _
  | cons y l ih =>
    obtain ⟨first, rest⟩ := List.pairwise_cons.1 order
    have other := others y List.mem_cons_self
    have length := intervals y List.mem_cons_self
    have clear := apart y List.mem_cons_self
    rw [insertItem]
    split
    · next before =>
      have ends : x.endE ≤ y.startS := by omega
      refine List.pairwise_cons.2 ⟨fun z mem => ?_, order⟩
      rcases List.mem_cons.1 mem with rfl | later
      · exact ⟨other.symm, ends⟩
      · have follows := (first z later).2
        exact ⟨(others z mem).symm, by omega⟩
    · next after =>
      have ends : y.endE ≤ x.startS := by omega
      refine List.pairwise_cons.2 ⟨fun z mem => ?_, ih rest (fun z mem => others z (List.mem_cons_of_mem y mem))
        (fun z mem => intervals z (List.mem_cons_of_mem y mem)) (fun z mem => apart z (List.mem_cons_of_mem y mem))⟩
      rcases (mem_insertItem l).1 mem with rfl | later
      · exact ⟨other, ends⟩
      · exact first z later

/-- The item enters the list of each window that is named, once. -/
theorem insertItems_getElem (x : CalItem) {ws : List (Fin 32)} (nodup : ws.Nodup) (v : Vector (List CalItem) 32)
    (w : Fin 32) : (insertItems x ws v)[w] = if w ∈ ws then insertItem x v[w] else v[w] := by
  induction ws generalizing v with
  | nil => simp [insertItems]
  | cons y ws ih =>
    obtain ⟨fresh, nodup⟩ := List.nodup_cons.1 nodup
    refine (ih nodup (v.set y (insertItem x v[y]))).trans ?_
    by_cases same : y = w
    · subst same
      simp [fresh]
    · have other : y.val ≠ w.val := fun e => same (Fin.ext e)
      have differs : ¬w = y := fun e => same e.symm
      simp [other, differs]

/-- What BOOK has read and checked of the planned interval and the windows (R109, R110). -/
theorem bookOrder?_planned {e : List Byte} {o : BookOrder} (reads : bookOrder? e = some o) :
    o.startS < o.endE ∧ o.windows.Nodup := by
  obtain ⟨⟨_, _, _, _, _, _, windows⟩, agrees, _⟩ := bookOrder?_eq_some_iff.1 reads
  exact ⟨(o.consistent_iff.1 agrees).2.2.1, (windowsOf?_eq_some_iff.1 windows).2.1⟩

/-- The calendar item of an order that is accepted at an entry (R106, R111). -/
def BookOrder.item (o : BookOrder) (i : Fin 256) (now : Nat) : CalItem :=
  { booking := i, startS := o.effectiveStart now, endE := o.endE }

theorem State.recordBooking_calendar {o : BookOrder} (nodup : o.windows.Nodup) (i : Fin 256) (s : State) (w : Fin 32) :
    (s.recordBooking i o).calendar[w] =
      if w ∈ o.windows then insertItem (o.item i s.now) s.calendar[w] else s.calendar[w] :=
  insertItems_getElem (o.item i s.now) nodup s.calendar w

/-- The items of an accepted booking overlap none (R106, R107, R110). -/
theorem State.recordBooking_calendarLaw {s : State} {i : Fin 256} {o : BookOrder} {e : List Byte}
    (reads : bookOrder? e = some o) (check : s.bookCheck o = .ok i) (law : s.calendarLaw) :
    (s.recordBooking i o).calendarLaw := by
  obtain ⟨items, order, planned⟩ := s.calendarLaw_iff.1 law
  obtain ⟨interval, nodup⟩ := bookOrder?_planned reads
  obtain ⟨_, _, _, time, _, apart⟩ := State.bookCheck_eq_ok_iff.1 check
  have closed : s.bookings[i].state.live = false := by
    rw [State.free_of_bookCheck check]
    rfl
  have unplanned : ∀ w : Fin 32, ∀ y ∈ s.calendar[w], y.booking ≠ i := fun w y mem same =>
    State.not_plans (same.symm ▸ closed) ((items w y).1 mem)
  have length : o.effectiveStart s.now < o.endE := max_lt interval time
  refine (State.calendarLaw_iff _).2 ⟨fun w x => ?_, fun w => ?_, fun j => ?_⟩
  · rw [State.recordBooking_calendar nodup]
    by_cases same : x.booking = i
    · have absent : x ∉ s.calendar[w] := fun mem => unplanned w x mem same
      have plans : (s.recordBooking i o).plans w x ↔ w ∈ o.windows ∧ x = o.item i s.now := by
        obtain ⟨booking, startS, endE⟩ := x
        subst same
        rw [State.plans, State.recordBooking_booking]
        simp only [BookOrder.item, CalItem.mk.injEq, true_and]
        exact ⟨fun h => h.2, fun h => ⟨rfl, h⟩⟩
      rw [plans]
      split
      · next named => rw [mem_insertItem, or_iff_left absent, and_iff_right named]
      · next unnamed => exact iff_of_false absent fun h => unnamed h.1
    · have other : x ≠ o.item i s.now := fun eq => same (congrArg CalItem.booking eq)
      rw [State.plans_congr (State.recordBooking_booking_other same o s), ← items w x]
      split
      · rw [mem_insertItem, or_iff_right other]
      · exact Iff.rfl
  · rw [State.recordBooking_calendar nodup]
    split
    · next named =>
      refine insertItem_pairwise (order w) (unplanned w) (fun y mem => ?_) length fun y mem clash => ?_
      · obtain ⟨live, _, startS, endE⟩ := (items w y).1 mem
        rw [startS, endE]
        exact (planned y.booking live).1
      · exact Bool.eq_false_iff.1 apart ((s.conflicts_iff o).2 ⟨w, named, y, mem, clash⟩)
    · exact order w
  · by_cases same : j = i
    · subst same
      rw [State.recordBooking_booking]
      exact fun _ => ⟨length, nodup⟩
    · rw [State.recordBooking_booking_other same]
      exact planned j

/-! #### A new planned end (R106, R121, R122) -/

/-- An item of the booking with its new end. -/
def CalItem.moved (i : Fin 256) (e : Nat) (x : CalItem) : CalItem :=
  if x.booking = i then { x with endE := e } else x

theorem CalItem.moved_same {i : Fin 256} {x : CalItem} (same : x.booking = i) (e : Nat) :
    x.moved i e = { x with endE := e } := if_pos same

theorem CalItem.moved_other {i : Fin 256} {x : CalItem} (other : x.booking ≠ i) (e : Nat) : x.moved i e = x :=
  if_neg other

theorem CalItem.moved_keeps (i : Fin 256) (e : Nat) (x : CalItem) :
    (x.moved i e).booking = x.booking ∧ (x.moved i e).startS = x.startS := by
  unfold CalItem.moved
  split <;> exact ⟨rfl, rfl⟩

theorem State.extendBooking_calendar (i : Fin 256) (e : Nat) (s : State) (w : Fin 32) :
    (s.extendBooking i e).calendar[w] = s.calendar[w].map (CalItem.moved i e) := Vector.getElem_map ..

/-- A granted end reaches no later item on a window of the booking (R107, R121). -/
theorem State.extendBooking_calendarLaw {s : State} {i : Fin 256} {x : Nat}
    (live : s.bookings[i].state.live = true) (granted : s.bookings[i].endE < s.grantedEnd i x) (law : s.calendarLaw) :
    (s.extendBooking i (s.grantedEnd i x)).calendarLaw := by
  obtain ⟨items, order, planned⟩ := s.calendarLaw_iff.1 law
  obtain ⟨_, _, next, _⟩ := s.grantedEnd_least i x
  have entry := s.bookings[i].extended_stands (s.grantedEnd i x) s.now
  rw [← State.extendBooking_booking] at entry
  refine (State.calendarLaw_iff _).2 ⟨fun w y => ?_, fun w => ?_, fun j => ?_⟩
  · rw [State.extendBooking_calendar, List.mem_map]
    by_cases same : y.booking = i
    · rw [State.plans_of_booking same, entry.live, entry.windows, entry.startS, entry.endE]
      constructor
      · rintro ⟨z, mem, moved⟩
        obtain ⟨kept, _⟩ := z.moved_keeps i (s.grantedEnd i x)
        have zi : z.booking = i := by rw [← kept, moved, same]
        obtain ⟨live, named, starts, _⟩ := (State.plans_of_booking zi).1 ((items w z).1 mem)
        rw [CalItem.moved_same zi] at moved
        subst moved
        exact ⟨live, named, starts, rfl⟩
      · rintro ⟨_, named, starts, ends⟩
        have z : (⟨y.booking, y.startS, s.bookings[i].endE⟩ : CalItem) ∈ s.calendar[w] :=
          (items w _).2 ((State.plans_of_booking (by exact same)).2 ⟨live, named, starts, rfl⟩)
        exact ⟨_, z, (CalItem.moved_same (by exact same) _).trans (congrArg (CalItem.mk y.booking y.startS) ends.symm)⟩
    · rw [State.plans_congr (State.extendBooking_booking_other same _ s), ← items w y]
      constructor
      · rintro ⟨z, mem, moved⟩
        obtain ⟨kept, _⟩ := z.moved_keeps i (s.grantedEnd i x)
        rw [moved] at kept
        rw [CalItem.moved_other (kept ▸ same)] at moved
        exact moved ▸ mem
      · exact fun mem => ⟨y, mem, CalItem.moved_other same _⟩
  · rw [State.extendBooking_calendar, List.pairwise_map]
    refine (order w).imp_of_mem fun {y z} memY memZ before => ?_
    obtain ⟨bookingY, _⟩ := y.moved_keeps i (s.grantedEnd i x)
    obtain ⟨bookingZ, startZ⟩ := z.moved_keeps i (s.grantedEnd i x)
    obtain ⟨differs, ends⟩ := before
    refine ⟨by rwa [bookingY, bookingZ], ?_⟩
    rw [startZ]
    by_cases same : y.booking = i
    · subst same
      obtain ⟨_, named, _, endY⟩ := (items w y).1 memY
      rw [CalItem.moved_same rfl]
      exact next z.startS ⟨w, named, z, memZ, differs.symm, endY ▸ ends, rfl⟩
    · rwa [CalItem.moved_other same]
  · by_cases same : j = i
    · subst same
      refine entry.planned fun _ => ?_
      obtain ⟨interval, nodup⟩ := planned j live
      exact ⟨interval.trans granted, nodup⟩
    · rw [State.extendBooking_booking_other same]
      exact planned j

theorem calendarLaw_bookingInvariant : BookingInvariant fun s => s.calendarLaw ∧ s.closedListed where
  closed := And.right
  frame h := fun ⟨law, closed⟩ => ⟨h.calendarLaw law, h.closedListed closed⟩
  closing i r w := fun ⟨law, closed⟩ => ⟨State.closing_calendarLaw i r w law, State.closing_closedListed i r w closed⟩
  claim h := fun ⟨law, closed⟩ => ⟨h.calendarLaw law, h.closedListed closed⟩
  record unlisted reads check := fun ⟨law, closed⟩ =>
    ⟨State.recordBooking_calendarLaw reads check law, State.recordBooking_closedListed unlisted closed⟩
  extend live granted := fun ⟨law, closed⟩ =>
    ⟨State.extendBooking_calendarLaw live granted law, State.extendBooking_closedListed _ closed⟩
  reset := ⟨State.reset_calendarLaw, nofun⟩

/-- Settles O58: the calendar changes with the bookings that are live, and only where an interval is free. -/
theorem calendarStaysWithoutOverlap : Obligations.CalendarStaysWithoutOverlap := fun _ _ _ settlement law next =>
  (calendarLaw_bookingInvariant.tableInvariant.step next settlement
    ⟨law, State.closedListed_of_settlementLaw settlement⟩).1

end Sys2Proof.Machine


namespace Sys2Proof.Machine

/-! ## TARIFF (R103) -/

/-- The tariff that the fields of a TARIFF entry give (Table 9-6). -/
def tariffFields (e : List Byte) : Tariff :=
  { defined := true, base := field e 0x0C 4, fan := field e 0x10 4, overrun := field e 0x14 4,
    credit := field e 0x18 4, grace := field e 0x1C 4, threshold := field e 0x20 4, lateWindow := field e 0x24 4 }

/-- The range rules of R103 on the tariff's values. -/
def Tariff.InRange (t : Tariff) : Prop :=
  t.base ≤ 1000000 ∧ t.fan ≤ 1000000 ∧ t.overrun ≤ 1000000 ∧ t.credit ≤ 1000000 ∧ t.grace ≤ 600000 ∧
    t.threshold ≤ 600000 ∧ t.lateWindow ≤ 86400000

theorem tariffOrder?_eq_some_iff {e : List Byte} {c : Fin 16} {t : Tariff} : tariffOrder? e = some (c, t) ↔
    c.val = field e 0x08 1 ∧ (tariffFields e).InRange ∧ t = tariffFields e := by
  rw [← indexOf?_eq_some_iff]
  unfold tariffOrder?
  cases indexOf? 16 (field e 0x08 1) with
  | none => exact ⟨nofun, fun ⟨numbered, _⟩ => nomatch numbered⟩
  | some d =>
    refine ((Option.ite_none_right_eq_some (p := (tariffFields e).InRange)).trans ?_)
    rw [Option.some.injEq, Option.some.injEq, Prod.mk.injEq]
    exact ⟨fun ⟨inside, same, values⟩ => ⟨same, inside, values.symm⟩,
      fun ⟨same, inside, values⟩ => ⟨inside, same, values.symm⟩⟩

theorem tariffOrder?_exists_iff {e : List Byte} : (∃ r, tariffOrder? e = some r) ↔
    field e 0x08 1 ≤ 15 ∧ (tariffFields e).InRange := by
  simp only [Prod.exists, tariffOrder?_eq_some_iff]
  constructor
  · rintro ⟨c, _, numbered, inside, _⟩
    exact ⟨numbered ▸ Nat.le_of_lt_succ c.isLt, inside⟩
  · exact fun ⟨numbered, inside⟩ => ⟨⟨_, Nat.lt_succ_of_le numbered⟩, _, rfl, inside, rfl⟩

section Tariff

variable {s : State} {mtag index : Nat} {entry : List Byte} (arrives : s.orderArrives mtag index 4 entry)
  (shape : shapeOk 4 entry = true)

include arrives shape

theorem exec_tariff_range (unread : tariffOrder? entry = none) :
    exec (.tariff mtag entry) s = .next (s.refusedWith mtag index entry .range) := by
  refine congrArg Host.Outcome.next (State.runOrder_refused arrives shape ?_)
  simp only [tariffOrder, unread]

theorem exec_tariff_done {c : Fin 16} {t : Tariff} (reads : tariffOrder? entry = some (c, t)) :
    exec (.tariff mtag entry) s =
      .next (((s.dropResponse mtag).putTariff c t).doneWith index entry false (.tariff c s.tariffs[c].defined)) := by
  refine congrArg Host.Outcome.next (State.runOrder_done arrives shape ?_)
  simp only [tariffOrder, reads]
  rfl

end Tariff

/-- Settles O35: the entry reads as a class and a tariff exactly when its fields are in range. -/
theorem tariffDefinesTheClass : Obligations.TariffDefinesTheClass := by
  refine fun s mtag index entry arrives shape => ⟨fun outside => ?_, fun ⟨numbered, inside⟩ => ?_⟩
  · refine exec_tariff_range arrives shape (Option.eq_none_iff_forall_ne_some.2 fun r reads => outside ?_)
    exact tariffOrder?_exists_iff.1 ⟨r, reads⟩
  · obtain ⟨⟨c, t⟩, reads⟩ := tariffOrder?_exists_iff.2 ⟨numbered, inside⟩
    obtain ⟨number, _, rfl⟩ := tariffOrder?_eq_some_iff.1 reads
    exact ⟨c, number, exec_tariff_done arrives shape reads⟩

/-! ## BOOK: the range rules and the refusals (R109, R110) -/

/-- A flag that reads is set when its byte is 1. -/
theorem flagOf?_true_iff {n : Nat} {b : Bool} (reads : flagOf? n = some b) : b = true ↔ n = 1 := by
  rw [flagOf?_eq_some_iff.1 reads]
  cases b <;> simp

theorem flagOf?_false_iff {n : Nat} {b : Bool} (reads : flagOf? n = some b) : b = false ↔ n = 0 := by
  rw [flagOf?_eq_some_iff.1 reads]
  cases b <;> simp

theorem protectionOf?_none_iff {n : Nat} {m : Protection} (reads : protectionOf? n = some m) : m = .none ↔ n = 0 := by
  rw [protectionOf?_eq_some_iff.1 reads]
  cases m <;> simp [Protection.code]

theorem protectionOf?_switch_iff {n : Nat} {m : Protection} (reads : protectionOf? n = some m) :
    m = .switch ↔ n = 1 := by
  rw [protectionOf?_eq_some_iff.1 reads]
  cases m <;> simp [Protection.code]

theorem protectionOf?_merge_iff {n : Nat} {m : Protection} (reads : protectionOf? n = some m) :
    m = .merge ↔ n = 2 := by
  rw [protectionOf?_eq_some_iff.1 reads]
  cases m <;> simp [Protection.code]

theorem backupOf?_val {n : Nat} {b : Option (Fin 48)} (reads : backupOf? n = some b) {x : Fin 48}
    (named : b = some x) : x.val = n := by
  subst named
  obtain ⟨absent, _⟩ | ⟨y, same, value⟩ := backupOf?_eq_some_iff.1 reads
  · cases absent
  · cases same
    exact value

theorem backupOf?_none_iff {n : Nat} {b : Option (Fin 48)} (reads : backupOf? n = some b) : b = none ↔ n = 255 := by
  cases b with
  | none =>
    obtain ⟨_, absent⟩ | ⟨_, named, _⟩ := backupOf?_eq_some_iff.1 reads
    · exact iff_of_true rfl absent
    · cases named
  | some x =>
    have value := backupOf?_val reads rfl
    exact iff_of_false nofun (by omega)

/-- The backup is the main source when their bytes agree. -/
theorem backupOf?_main_iff {n m : Nat} {b : Option (Fin 48)} {main : Fin 48} (reads : backupOf? n = some b)
    (value : main.val = m) : b = some main ↔ n = m := by
  refine ⟨fun same => (backupOf?_val reads same).symm.trans value, fun same => ?_⟩
  subst same value
  obtain ⟨_, absent⟩ | ⟨y, named, equal⟩ := backupOf?_eq_some_iff.1 reads
  · omega
  · rw [named, Fin.ext equal]

/-- The rules of R109 that tie the bytes of a BOOK entry together. -/
def bookBytesAgree (e : List Byte) : Prop :=
  field e 0x28 8 < 2 ^ 40 ∧ field e 0x30 8 < 2 ^ 40 ∧ field e 0x28 8 < field e 0x30 8 ∧
    field e 0x30 8 - field e 0x28 8 ≤ 86400000 ∧ field e 0x18 4 ≤ 7200000 ∧ field e 0x14 4 ≤ 600000 ∧
    (field e 0x0B 1 = 0 → field e 0x0A 1 = 255) ∧
    (field e 0x0B 1 ≠ 0 → field e 0x0A 1 ≠ 255 ∧ field e 0x0A 1 ≠ field e 0x09 1) ∧
    (field e 0x0B 1 ≠ 1 → field e 0x0C 1 = 0 ∧ field e 0x14 4 = 0)

theorem BookOrder.consistent_iff_bytes {e : List Byte} {o : BookOrder}
    (main : indexOf? 48 (field e 0x09 1) = some o.main)
    (backup : backupOf? (field e 0x0A 1) = some o.backup) (mode : protectionOf? (field e 0x0B 1) = some o.mode)
    (revert : flagOf? (field e 0x0C 1) = some o.revert) (wtr : o.wtr = field e 0x14 4)
    (maxOver : o.maxOver = field e 0x18 4) (startS : o.startS = field e 0x28 8) (endE : o.endE = field e 0x30 8) :
    o.consistent = true ↔ bookBytesAgree e := by
  simp only [o.consistent_iff, bookBytesAgree, ne_eq, wtr, maxOver, startS, endE, protectionOf?_none_iff mode,
    protectionOf?_switch_iff mode, backupOf?_none_iff backup, backupOf?_main_iff backup (indexOf?_eq_some_iff.1 main),
    flagOf?_false_iff revert]

/-- An entry reads as an order when each of its bytes reads and they agree. -/
theorem bookOrder?_exists_iff {e : List Byte} : (∃ o, bookOrder? e = some o) ↔
    (∃ c, indexOf? 16 (field e 0x08 1) = some c) ∧ (∃ x, indexOf? 48 (field e 0x09 1) = some x) ∧
      (∃ x, backupOf? (field e 0x0A 1) = some x) ∧ (∃ m, protectionOf? (field e 0x0B 1) = some m) ∧
      (∃ b, flagOf? (field e 0x0C 1) = some b) ∧ (∃ b, flagOf? (field e 0x0D 1) = some b) ∧
      (∃ ws, windowsOf? e (field e 0x0E 1) = some ws) ∧ bookBytesAgree e := by
  constructor
  · rintro ⟨o, reads⟩
    obtain ⟨⟨cls, main, backup, mode, revert, holdOn, windows⟩, agrees, wtr, maxOver, _, _, startS, endE⟩ :=
      bookOrder?_eq_some_iff.1 reads
    exact ⟨⟨_, cls⟩, ⟨_, main⟩, ⟨_, backup⟩, ⟨_, mode⟩, ⟨_, revert⟩, ⟨_, holdOn⟩, ⟨_, windows⟩,
      (BookOrder.consistent_iff_bytes main backup mode revert wtr maxOver startS endE).1 agrees⟩
  · rintro ⟨⟨c, cls⟩, ⟨x, main⟩, ⟨y, backup⟩, ⟨m, mode⟩, ⟨r, revert⟩, ⟨h, holdOn⟩, ⟨ws, windows⟩, agrees⟩
    let o : BookOrder :=
      { cls := c, main := x, backup := y, mode := m, revert := r, holdOn := h, windows := ws, wtr := field e 0x14 4,
        maxOver := field e 0x18 4, account := word32At e 0x1C, matchRef := word32At e 0x20,
        startS := field e 0x28 8, endE := field e 0x30 8 }
    exact ⟨o, bookOrder?_eq_some_iff.2 ⟨⟨cls, main, backup, mode, revert, holdOn, windows⟩,
      (BookOrder.consistent_iff_bytes (o := o) main backup mode revert rfl rfl rfl rfl).2 agrees, rfl, rfl, rfl, rfl,
      rfl, rfl⟩⟩

/-- Settles O36: the rules of the single bytes, the rules that tie them together, and the order as its fields. -/
theorem bookRanges : Obligations.BookRanges := by
  refine fun e => ⟨?_, fun o reads => ?_⟩
  · rw [bookOrder?_exists_iff, indexOf?_exists_iff, indexOf?_exists_iff, backupOf?_exists_iff, protectionOf?_exists_iff,
      flagOf?_exists_iff, flagOf?_exists_iff, windowsOf?_exists_iff, and_assoc, and_assoc, and_assoc,
      Nat.lt_succ_iff, Nat.lt_succ_iff]
    exact Iff.rfl
  · obtain ⟨⟨cls, main, backup, mode, revert, holdOn, windows⟩, _, wtr, maxOver, account, matchRef, startS, endE⟩ :=
      bookOrder?_eq_some_iff.1 reads
    obtain ⟨_, _, numbers⟩ := windowsOf?_eq_some_iff.1 windows
    exact ⟨indexOf?_eq_some_iff.1 cls, indexOf?_eq_some_iff.1 main, fun x => backupOf?_val backup,
      backupOf?_none_iff backup, protectionOf?_none_iff mode, protectionOf?_switch_iff mode,
      protectionOf?_merge_iff mode, flagOf?_true_iff revert, flagOf?_true_iff holdOn, numbers, startS, endE, maxOver,
      wtr, account, matchRef⟩

section Book

variable {s : State} {mtag index : Nat} {entry : List Byte} (arrives : s.orderArrives mtag index 5 entry)
  (shape : shapeOk 5 entry = true)

include arrives shape

theorem exec_book_range (unread : bookOrder? entry = none) :
    exec (.book mtag entry) s = .next (s.refusedWith mtag index entry .range) := by
  refine congrArg Host.Outcome.next (State.runOrder_refused arrives shape ?_)
  simp only [bookOrder, unread]

variable {o : BookOrder} (reads : bookOrder? entry = some o)

include reads

theorem exec_book_refused {r : OrderReason} (check : (s.dropResponse mtag).bookCheck o = .error r) :
    exec (.book mtag entry) s = .next (s.refusedWith mtag index entry r) := by
  refine congrArg Host.Outcome.next (State.runOrder_refused arrives shape ?_)
  simp only [bookOrder, reads, check]

theorem exec_book_done {i : Fin 256} (check : (s.dropResponse mtag).bookCheck o = .ok i) :
    exec (.book mtag entry) s =
      let u := ((s.dropResponse mtag).recordBooking i o).firstState i
      .next (u.doneWith index entry (decide (o.startS < s.now)) (u.bookResult i)) := by
  refine congrArg Host.Outcome.next (State.runOrder_done arrives shape ?_)
  simp only [bookOrder, reads, check]
  rfl

end Book

theorem BookOrder.forall_sources_iff (o : BookOrder) (p : Fin 48 → Prop) :
    (∀ x ∈ o.sources, p x) ↔ p o.main ∧ ∀ x, o.backup = some x → p x := by
  simp only [BookOrder.sources, List.forall_mem_cons, Option.mem_toList]

/-! ### The refusal of each check -/

section Checks

variable {s : State} {o : BookOrder}

theorem State.bookCheck_noTariff (undefined : ¬s.tariffs[o.cls].defined = true) : s.bookCheck o = .error .noTariff := by
  rw [State.bookCheck_eq]
  exact if_pos undefined

variable (tariff : s.tariffs[o.cls].defined = true)

include tariff

theorem State.bookCheck_noSource (disabled : ¬∀ x ∈ o.sources, s.sources[x].enabled = true) :
    s.bookCheck o = .error .noSource := by
  rw [State.bookCheck_eq, if_neg (not_not.2 tariff)]
  exact if_pos disabled

variable (sources : ∀ x ∈ o.sources, s.sources[x].enabled = true)

include sources

theorem State.bookCheck_noWindow (undefined : ¬∀ w ∈ o.windows, s.windows[w].defined = true) :
    s.bookCheck o = .error .noWindow := by
  rw [State.bookCheck_eq, if_neg (not_not.2 tariff), if_neg (not_not.2 sources)]
  exact if_pos undefined

variable (windows : ∀ w ∈ o.windows, s.windows[w].defined = true)

include windows

theorem State.bookCheck_tooLate (late : ¬s.time.house < o.endE) : s.bookCheck o = .error .tooLate := by
  rw [State.bookCheck_eq, if_neg (not_not.2 tariff), if_neg (not_not.2 sources), if_neg (not_not.2 windows)]
  exact if_pos (Nat.le_of_not_lt late)

variable (time : s.time.house < o.endE)

include time

theorem State.bookCheck_tableFull (full : s.freeEntry = none) : s.bookCheck o = .error .tableFull := by
  rw [State.bookCheck_eq, if_neg (not_not.2 tariff), if_neg (not_not.2 sources), if_neg (not_not.2 windows), full]
  exact if_neg (Nat.not_le.2 time)

theorem State.bookCheck_conflict {i : Fin 256} (free : s.freeEntry = some i) (conflict : s.conflicts o = true) :
    s.bookCheck o = .error .conflict := by
  rw [State.bookCheck_eq, if_neg (not_not.2 tariff), if_neg (not_not.2 sources), if_neg (not_not.2 windows), free,
    conflict]
  exact if_neg (Nat.not_le.2 time)

end Checks

/-- Settles O37: each refusal of R110 stands behind the checks before it. -/
theorem bookChecksRunInOrder : Obligations.BookChecksRunInOrder := by
  refine fun s mtag index entry arrives shape => ⟨exec_book_range arrives shape, fun o reads => ?_⟩
  have refused : ∀ {r}, (s.dropResponse mtag).bookCheck o = .error r →
      exec (.book mtag entry) s = .next (s.refusedWith mtag index entry r) := exec_book_refused arrives shape reads
  have named := o.forall_sources_iff fun x => s.sources[x].enabled = true
  refine ⟨fun tariff => refused (State.bookCheck_noTariff tariff),
    fun tariff sources => refused (State.bookCheck_noSource tariff (mt named.1 sources)),
    fun tariff sources windows => refused (State.bookCheck_noWindow tariff (named.2 sources) windows),
    fun tariff sources windows time => refused (State.bookCheck_tooLate tariff (named.2 sources) windows time),
    fun tariff sources windows time room => ?_, fun tariff sources windows time room conflict => ?_⟩
  · have full := State.freeEntry_eq_none_iff.2 fun i free => room ⟨i, free⟩
    exact refused (State.bookCheck_tableFull tariff (named.2 sources) windows time full)
  · obtain ⟨j, taken⟩ := room
    obtain ⟨i, free⟩ := Option.ne_none_iff_exists'.1 fun full => State.freeEntry_eq_none_iff.1 full j taken
    exact refused (State.bookCheck_conflict tariff (named.2 sources) windows time free ((s.conflicts_iff o).2 conflict))

end Sys2Proof.Machine


namespace Sys2Proof.Machine

/-! ## BOOK: the acceptance (R111) -/

/-- `c` is of the generation of `b` and has the terms that a BOOK answers with (R111). -/
structure Booking.KeepsTerms (b c : Booking) : Prop where
  gen : c.gen = b.gen
  startS : c.startS = b.startS
  endE : c.endE = b.endE
  account : c.account = b.account
  matchRef : c.matchRef = b.matchRef

/-- The closes before a start leave the terms of the booking that starts (R115). -/
theorem State.clearWindows_keepsTerms (i : Fin 256) (s : State) :
    s.bookings[i].KeepsTerms (s.clearWindows i).bookings[i] := by
  obtain ⟨same | ⟨_, freed⟩, _⟩ := s.clearWindows_entryStands i
  · exact same ▸ ⟨rfl, rfl, rfl, rfl, rfl⟩
  · exact freed ▸ ⟨rfl, rfl, rfl, rfl, rfl⟩

theorem State.startBooking_keepsTerms (i : Fin 256) (fresh : Bool) (s : State) :
    s.bookings[i].KeepsTerms (s.startBooking i fresh).bookings[i] := by
  obtain ⟨gen, startS, endE, account, matchRef⟩ := s.clearWindows_keepsTerms i
  have entry := (s.clearWindows i).enterOnAir_booking i fresh (s.holdersFor i).length
  rw [State.startBooking, entry]
  exact ⟨gen, startS, endE, account, matchRef⟩

theorem State.prerolled_booking (i : Fin 256) (s : State) : (s.prerolled i).bookings[i] =
    { s.bookings[i] with state := .preroll, prerollExp := none, startExp := some s.bookings[i].startS } :=
  State.modBooking_same i _ (s.claim i)

theorem State.enterPreroll_keepsTerms (i : Fin 256) (s : State) :
    s.bookings[i].KeepsTerms (s.enterPreroll i).bookings[i] := by
  obtain ⟨check, e, _, entry⟩ := State.Entries.beginLineCheck_booking i (s.prerolled i)
  rw [s.prerolled_booking i] at entry
  rw [State.enterPreroll]
  exact entry ▸ ⟨rfl, rfl, rfl, rfl, rfl⟩

section FirstState

variable {s : State} {i : Fin 256}

theorem State.firstState_of_now (starts : s.bookings[i].startS = s.now) : s.firstState i = s.startBooking i true :=
  if_pos starts

theorem State.firstState_of_soon (later : s.now < s.bookings[i].startS)
    (soon : s.bookings[i].startS ≤ s.now + s.ctl.settings.preroll) : s.firstState i = s.enterPreroll i :=
  (if_neg later.ne').trans (if_pos soon)

theorem State.firstState_of_later (later : s.now + s.ctl.settings.preroll < s.bookings[i].startS) :
    s.firstState i = s.modBooking i fun b =>
      { b with prerollExp := some (s.bookings[i].startS - s.ctl.settings.preroll) } :=
  (if_neg ((Nat.le_add_right _ _).trans_lt later).ne').trans (if_neg (Nat.not_le.2 later))

/-- The first state is decided without a change to the terms (R111). -/
theorem State.firstState_keepsTerms (i : Fin 256) (s : State) :
    s.bookings[i].KeepsTerms (s.firstState i).bookings[i] := by
  unfold State.firstState
  dsimp only
  split
  · exact s.startBooking_keepsTerms i true
  · split
    · exact s.enterPreroll_keepsTerms i
    · rw [State.modBooking_same]
      exact ⟨rfl, rfl, rfl, rfl, rfl⟩

end FirstState

/-- A change to an entry that has just been set is a set of the changed entry. -/
theorem State.modBooking_of_set {s : State} {v : Vector Booking 256} {i : Fin 256} {b : Booking}
    (bookings : s.bookings = v.set i b) (f : Booking → Booking) :
    s.modBooking i f = { s with bookings := v.set i (f b) } := by
  have entry : s.bookings[i] = b := by
    simp only [bookings]
    exact Vector.getElem_set_self _
  rw [State.modBooking, entry, bookings, Vector.set_set]

/-- Settles O38: the entry and its calendar items, the first state by the effective start, and the answer, whose terms
the first state leaves. -/
theorem bookTakesTheLowestFreeEntry : Obligations.BookTakesTheLowestFreeEntry := by
  intro s mtag index entry o i arrives shape reads tariff main backup windows time free before apart
  let d := s.dropResponse mtag
  let s1 := d.recordBooking i o
  obtain ⟨_, nodup⟩ := bookOrder?_planned reads
  have sources : ∀ x ∈ o.sources, s.sources[x].enabled = true := (o.forall_sources_iff _).2 ⟨main, backup⟩
  have conflicts : d.conflicts o = false := by
    refine Bool.eq_false_iff.2 fun clash => ?_
    obtain ⟨w, named, x, mem, overlap⟩ := (d.conflicts_iff o).1 clash
    exact apart w named x mem overlap
  have check : d.bookCheck o = .ok i := State.bookCheck_eq_ok_iff.2
    ⟨tariff, sources, windows, time, State.freeEntry_eq_some_iff.2 ⟨free, before⟩, conflicts⟩
  have calendar : ∀ w : Fin 32, s1.calendar[w] =
      if w ∈ o.windows then insertItem (o.item i s.now) s.calendar[w] else s.calendar[w] :=
    fun w => State.recordBooking_calendar nodup i d w
  have booked : s1.bookings[i] = s.bookings[i].accepted o (o.effectiveStart s.now) s.tariffs[o.cls] :=
    State.recordBooking_booking i o d
  have startS : s1.bookings[i].startS = o.effectiveStart s.now := congrArg Booking.startS booked
  refine ⟨s1, s1.firstState i, rfl, fun w unnamed => ?_, fun w named x => ?_, fun starts => ?_, fun later soon => ?_,
    fun later => ?_, ?_⟩
  · rw [calendar, if_neg unnamed]
  · rw [calendar, if_pos named, mem_insertItem, or_comm]
    exact Iff.rfl
  · exact State.firstState_of_now (startS.trans starts)
  · exact State.firstState_of_soon (startS ▸ later) (startS ▸ soon)
  · have first := State.firstState_of_later (s := s1) (i := i) (startS ▸ later)
    rw [startS] at first
    exact first.trans (State.modBooking_of_set rfl _)
  · obtain ⟨gen, starts, ends, account, matchRef⟩ := s1.firstState_keepsTerms i
    rw [booked] at gen starts ends account matchRef
    have answer : (s1.firstState i).bookResult i =
        .book { index := i, gen := s.bookings[i].gen + 1 } (s1.firstState i).bookings[i].state
          (o.effectiveStart s.now) o.endE o.account o.matchRef := by
      rw [State.bookResult, State.handleOf, gen, starts, ends, account, matchRef]
      rfl
    refine (exec_book_done arrives shape reads check).trans (congrArg Host.Outcome.next ?_)
    exact congrArg ((s1.firstState i).doneWith index entry (decide (o.startS < s.now))) answer

/-! ## EXTEND (R121, R122) -/

section Refusal

variable {s : State} {i : Fin 256}

theorem State.extendRefusal_conflict (next : s.startsNext i s.bookings[i].endE) : s.extendRefusal i = .conflict := by
  unfold State.extendRefusal
  cases start : s.nextStart i with
  | none => exact absurd next (State.nextStart_eq_none_iff.1 start _)
  | some t => exact if_pos ((State.nextStart_eq_some_iff.1 start).2 _ next)

theorem State.extendRefusal_range (alone : ¬s.startsNext i s.bookings[i].endE) : s.extendRefusal i = .range := by
  unfold State.extendRefusal
  cases start : s.nextStart i with
  | none => rfl
  | some t =>
    obtain ⟨starts, _⟩ := State.nextStart_eq_some_iff.1 start
    refine if_neg fun before => alone ?_
    obtain ⟨_, _, _, _, _, after, same⟩ := id starts
    exact (Nat.le_antisymm before (same ▸ after)) ▸ starts

end Refusal

/-- An EXTEND in range finds its booking or none. -/
theorem extendOrder_of_stale {entry : List Byte} {s : State}
    (inRange : 1 ≤ field entry 0x0C 4 ∧ field entry 0x0C 4 ≤ 172800000)
    (stale : s.handleCurrent (orderHandle entry) = false) (n : Nat) :
    extendOrder entry n s = refuseOrder .noBooking s := by
  refine (if_neg ?_).trans (if_pos (congrArg not stale))
  rw [Config.plannedMax]
  omega

theorem extendOrder_of_current {entry : List Byte} {s : State}
    (inRange : 1 ≤ field entry 0x0C 4 ∧ field entry 0x0C 4 ≤ 172800000)
    (current : s.handleCurrent (orderHandle entry) = true) (n : Nat) :
    extendOrder entry n s =
      let h := orderHandle entry
      let e := s.grantedEnd h.index (field entry 0x0C 4)
      if !s.bookings[h.index].state.live then refuseOrder .wrongState s
      else if e ≤ s.bookings[h.index].endE then refuseOrder (s.extendRefusal h.index) s
      else
        let u := s.extendBooking h.index e
        doneOrder (e < s.bookings[h.index].endE + field entry 0x0C 4)
          (.extend h u.bookings[h.index].state e (e - s.bookings[h.index].endE)) u := by
  refine (if_neg ?_).trans (if_neg (Bool.eq_false_iff.1 (congrArg not current)))
  rw [Config.plannedMax]
  omega

section Extend

variable {s : State} {mtag index : Nat} {entry : List Byte} (arrives : s.orderArrives mtag index 6 entry)
  (shape : shapeOk 6 entry = true)

include arrives shape

theorem exec_extend_range (outside : ¬(1 ≤ field entry 0x0C 4 ∧ field entry 0x0C 4 ≤ 172800000)) :
    exec (.extend mtag entry) s = .next (s.refusedWith mtag index entry .range) := by
  refine congrArg Host.Outcome.next (State.runOrder_refused arrives shape (if_pos ?_))
  rw [Config.plannedMax]
  omega

variable (inRange : 1 ≤ field entry 0x0C 4 ∧ field entry 0x0C 4 ≤ 172800000)

include inRange

theorem exec_extend_noBooking (stale : s.bookings[(orderHandle entry).index].gen ≠ (orderHandle entry).gen) :
    exec (.extend mtag entry) s = .next (s.refusedWith mtag index entry .noBooking) := by
  have old : (s.dropResponse mtag).handleCurrent (orderHandle entry) = false :=
    Bool.eq_false_iff.2 (mt (s.handleCurrent_iff _).1 stale)
  refine congrArg Host.Outcome.next (State.runOrder_refused arrives shape ?_)
  exact extendOrder_of_stale inRange old _

variable (current : s.bookings[(orderHandle entry).index].gen = (orderHandle entry).gen)

include current

theorem exec_extend_wrongState (dead : s.bookings[(orderHandle entry).index].state.live = false) :
    exec (.extend mtag entry) s = .next (s.refusedWith mtag index entry .wrongState) := by
  have found : (s.dropResponse mtag).handleCurrent (orderHandle entry) = true := (s.handleCurrent_iff _).2 current
  refine congrArg Host.Outcome.next (State.runOrder_refused arrives shape ?_)
  rw [extendOrder_of_current inRange found]
  exact if_pos (congrArg not dead)

variable (live : s.bookings[(orderHandle entry).index].state.live = true)

include live

theorem exec_extend_refused (nothing : s.grantedEnd (orderHandle entry).index (field entry 0x0C 4) ≤
      s.bookings[(orderHandle entry).index].endE) :
    exec (.extend mtag entry) s =
      .next (s.refusedWith mtag index entry (s.extendRefusal (orderHandle entry).index)) := by
  have found : (s.dropResponse mtag).handleCurrent (orderHandle entry) = true := (s.handleCurrent_iff _).2 current
  refine congrArg Host.Outcome.next (State.runOrder_refused arrives shape ?_)
  rw [extendOrder_of_current inRange found]
  exact (if_neg (Bool.eq_false_iff.1 (congrArg not live))).trans (if_pos nothing)

theorem exec_extend_done {e : Nat} (grant : s.grantedEnd (orderHandle entry).index (field entry 0x0C 4) = e)
    (granted : s.bookings[(orderHandle entry).index].endE < e) :
    exec (.extend mtag entry) s =
      .next (((s.dropResponse mtag).extendBooking (orderHandle entry).index e).doneWith index entry
        (decide (e < s.bookings[(orderHandle entry).index].endE + field entry 0x0C 4))
        (.extend (orderHandle entry) (s.bookings[(orderHandle entry).index].extended e s.now).state e
          (e - s.bookings[(orderHandle entry).index].endE))) := by
  subst grant
  have found : (s.dropResponse mtag).handleCurrent (orderHandle entry) = true := (s.handleCurrent_iff _).2 current
  refine congrArg Host.Outcome.next (State.runOrder_done arrives shape ?_)
  rw [extendOrder_of_current inRange found]
  refine ((if_neg (Bool.eq_false_iff.1 (congrArg not live))).trans (if_neg (Nat.not_le.2 granted))).trans ?_
  dsimp only
  rw [State.extendBooking_booking]
  rfl

end Extend

theorem BookingState.live_iff (x : BookingState) :
    x.live = true ↔ x = .pending ∨ x = .preroll ∨ x = .onAir ∨ x = .overrun := by
  cases x <;> simp [BookingState.live]

section Extended

variable {b : Booking} {e now : Nat}

theorem Booking.extended_of_unaired (state : b.state = .pending ∨ b.state = .preroll) :
    b.extended e now = { b with endE := e } := by
  rcases state with state | state <;> simp only [Booking.extended, state]

theorem Booking.extended_of_onAir (state : b.state = .onAir) :
    b.extended e now = { b with endE := e, endExp := some e } := by
  simp only [Booking.extended, state]

theorem Booking.extended_of_overrun_ahead (state : b.state = .overrun) (ahead : now < e) :
    b.extended e now = { b with endE := e, state := .onAir, capExp := none, endExp := some e } := by
  simp only [Booking.extended, state, if_pos ahead]

theorem Booking.extended_of_overrun_past (state : b.state = .overrun) (past : e ≤ now) :
    b.extended e now = { b with endE := e, capExp := some (e + b.maxOver) } := by
  simp only [Booking.extended, state, if_neg (Nat.not_lt.2 past)]

end Extended

/-- Settles O39: the refusals, the granted end as the least of its three bounds, and the new end by state. -/
theorem extendMovesThePlannedEnd : Obligations.ExtendMovesThePlannedEnd := by
  refine fun s mtag index entry arrives shape => ⟨exec_extend_range arrives shape, exec_extend_noBooking arrives shape,
    fun inRange current dead => exec_extend_wrongState arrives shape inRange current
      (Bool.eq_false_iff.2 (mt (BookingState.live_iff _).1 dead)), fun inRange current lives => ?_⟩
  have live := (BookingState.live_iff _).2 lives
  obtain ⟨asked, planned, next, bound⟩ := s.grantedEnd_least (orderHandle entry).index (field entry 0x0C 4)
  refine ⟨s.grantedEnd (orderHandle entry).index (field entry 0x0C 4), asked, planned, next, bound,
    fun nothing => ?_, fun granted => ?_⟩
  · have refused := exec_extend_refused arrives shape inRange current live nothing
    refine ⟨fun taken => ?_, fun alone => ?_⟩
    · rwa [State.extendRefusal_conflict taken] at refused
    · rwa [State.extendRefusal_range alone] at refused
  · exact ⟨_, _, exec_extend_done arrives shape inRange current live rfl granted, rfl, Booking.extended_of_unaired,
      Booking.extended_of_onAir, Booking.extended_of_overrun_ahead, Booking.extended_of_overrun_past⟩

end Sys2Proof.Machine


namespace Sys2Proof.Machine

/-! ## The close of a booking (R124, R163 to R165) -/

/-! ### The settlement -/

section Settlement

variable {b : Booking} (i : Fin 256) (r : EndReason) (w : Bool) (now : Nat)

/-- A booking that aired is charged by its meter and its actual end (R159 to R162). -/
theorem settlementOf_of_aired {a e : Nat} (started : b.actStart = some a) (ended : b.actEnd = some e) :
    (settlementOf b i r w now).charges = chargesAired b b.meter e ∧ (settlementOf b i r w now).lateCancel = false := by
  simp only [settlementOf, started, ended, Option.isNone_some, Bool.or_false, Bool.false_and, and_self]

/-- One that never aired is charged for a late cancellation (R163). -/
theorem settlementOf_of_unaired (unaired : b.actStart = none) :
    (settlementOf b i r w now).lateCancel = b.lateCancelled r ∧
      (settlementOf b i r w now).charges = chargesNeverAired b (b.lateCancelled r) := by
  simp only [settlementOf, unaired, Option.isNone_none, Bool.true_or, Bool.true_and, and_self]

theorem Booking.lateCancelled_iff (b : Booking) (r : EndReason) : b.lateCancelled r = true ↔
    r = .cancelled ∧ ∃ t, b.cancelTime = some t ∧ b.startS - t < b.tariff.lateWindow := by
  rw [Booking.lateCancelled, Bool.and_eq_true, beq_iff_eq]
  refine and_congr_right fun _ => ?_
  cases b.cancelTime with
  | none => exact iff_of_false nofun nofun
  | some t =>
    simp only [Booking.late, decide_eq_true_iff, Option.some.injEq]
    exact ⟨fun late => ⟨t, rfl, late⟩, fun ⟨_, same, late⟩ => same ▸ late⟩

end Settlement

/-! ### The entry and the tables -/

section Close

variable (b : Booking) (i : Fin 256) (r : EndReason) (w : Bool)

theorem Booking.closed_actEnd (now : Nat) : (b.closed i r w now).actEnd =
    if b.state = .onAir ∨ b.state = .overrun then some now else b.actEnd :=
  if_congr (BookingState.onAirOrOverrun_iff _) rfl rfl

theorem Meter.closeAt_of_closed {m : Meter} (closed : m.openSpan = none) (now t : Nat) : m.closeAt now t = m := by
  simp only [Meter.closeAt, closed]

variable (s : State)

/-- The windows of a booking on air are released (R131). -/
theorem State.closing_window (x : Fin 32) : (s.closing i r w).windows[x] =
    if s.bookings[i].state.onAirOrOverrun = true ∧ x ∈ s.bookings[i].windows then s.windows[x].handed none false
    else s.windows[x] := by
  have released : (s.closing i r w).windows =
      if s.bookings[i].state.onAirOrOverrun then handWindows none false s.bookings[i].windows s.windows
      else s.windows := rfl
  rw [released, ite_and]
  split
  · exact handWindows_getElem none false s.bookings[i].windows s.windows x
  · rfl

/-- The use counts of a booking that holds its sources are lowered (R108). -/
theorem State.closing_useCounts : (s.closing i r w).useCounts =
    if s.bookings[i].state.holdsSources then lowerUse s.bookings[i].sources s.useCounts else s.useCounts := rfl

theorem State.closing_calendar : (s.closing i r w).calendar = removeItems i s.calendar := rfl

end Close

/-- Settles O40: the tables by table, the entry by `Booking.closed`, and its settlement. -/
theorem closeSettlesTheBooking : Obligations.CloseSettlesTheBooking := by
  intro s i r withdrawn b now aired
  have holds : b.state.holdsSources = true ↔ aired ∨ b.state = .preroll :=
    (BookingState.holdsSources_iff _).trans or_comm
  refine ⟨b.closed i r withdrawn now, s.closing i r withdrawn,
    settlementOf (b.closed i r withdrawn now) i r withdrawn now, s.closeBooking_eq .., rfl, fun w => ?_,
    fun onAir w named => ?_, fun w stays => ?_, fun held distinct y => ?_, fun unheld => ?_, ?_, fun shut => ?_,
    fun o opened => ?_, rfl, fun a e started ended => ?_, fun unaired => ?_⟩
  · rw [State.closing_calendar, removeItems_getElem]
  · rw [State.closing_window, if_pos ⟨(BookingState.onAirOrOverrun_iff _).2 onAir, named⟩]
    rfl
  · rw [State.closing_window, if_neg]
    exact fun ⟨onAir, named⟩ => stays.elim (· ((BookingState.onAirOrOverrun_iff _).1 onAir)) (· named)
  · rw [State.closing_useCounts, if_pos (holds.2 held)]
    exact lowerUse_sources distinct s.useCounts y
  · rw [State.closing_useCounts, if_neg (mt holds.1 unheld)]
  · rw [← Booking.closed_actEnd b i r withdrawn now]
    rfl
  · exact Meter.closeAt_of_closed shut _ _
  · exact Meter.closeAt_of_open opened _ _
  · exact settlementOf_of_aired i r withdrawn now started ended
  · obtain ⟨late, charges⟩ := settlementOf_of_unaired (b := b.closed i r withdrawn now) i r withdrawn now unaired
    rw [late, charges]
    exact ⟨Booking.lateCancelled_iff _ r, rfl⟩

end Sys2Proof.Machine


namespace Sys2Proof.Machine

/-! ## RELEASE, CANCEL and METER (R119, R120, R123) -/

section Bodies

variable {entry : List Byte} {s : State}

section Stale

variable (stale : s.handleCurrent (orderHandle entry) = false) (n : Nat)

include stale

theorem releaseOrder_of_stale : releaseOrder entry n s = refuseOrder .noBooking s := if_pos (congrArg not stale)

theorem cancelOrder_of_stale : cancelOrder entry n s = refuseOrder .noBooking s := if_pos (congrArg not stale)

theorem meterOrder_of_stale : meterOrder entry n s = refuseOrder .noBooking s := if_pos (congrArg not stale)

end Stale

variable (current : s.handleCurrent (orderHandle entry) = true) (n : Nat)

include current

theorem releaseOrder_of_current : releaseOrder entry n s =
    if s.bookings[(orderHandle entry).index].state.onAirOrOverrun then
      doneOrder false (.release (orderHandle entry) s.now) (s.closeBooking (orderHandle entry).index .released false)
    else refuseOrder .wrongState s := if_neg (Bool.eq_false_iff.1 (congrArg not current))

theorem meterOrder_of_current : meterOrder entry n s =
    if s.bookings[(orderHandle entry).index].state.onAirOrOverrun then
      (s, .meter (meterReading s.bookings[(orderHandle entry).index] (orderHandle entry).index (orderTag entry) n
        s.now))
    else refuseOrder .wrongState s := if_neg (Bool.eq_false_iff.1 (congrArg not current))

theorem cancelOrder_of_current : cancelOrder entry n s =
    if s.bookings[(orderHandle entry).index].state = .pending ∨
        s.bookings[(orderHandle entry).index].state = .preroll then
      doneOrder false (.cancel (orderHandle entry) (s.bookings[(orderHandle entry).index].late s.now) s.now)
        (s.cancelBooking (orderHandle entry).index false)
    else refuseOrder .wrongState s := by
  refine (if_neg (Bool.eq_false_iff.1 (congrArg not current))).trans ?_
  cases s.bookings[(orderHandle entry).index].state <;> rfl

end Bodies

/-- What RELEASE, CANCEL and METER have in common: `body` refuses a stale handle, and a current one whose booking is
not in a state of `ok`. -/
structure HandleOrder (entry : List Byte) (ok : BookingState → Prop) (body : Nat → State → State × OrderReply) :
    Prop where
  stale : ∀ {s : State}, s.handleCurrent (orderHandle entry) = false → ∀ n, body n s = refuseOrder .noBooking s
  wrong : ∀ {s : State}, s.handleCurrent (orderHandle entry) = true →
    ¬ok s.bookings[(orderHandle entry).index].state → ∀ n, body n s = refuseOrder .wrongState s

/-- A booking that RELEASE and METER take. -/
def BookingState.OnAir (x : BookingState) : Prop := x = .onAir ∨ x = .overrun

/-- A booking that CANCEL takes. -/
def BookingState.Waits (x : BookingState) : Prop := x = .pending ∨ x = .preroll

theorem releaseOrder_handleOrder (entry : List Byte) : HandleOrder entry BookingState.OnAir (releaseOrder entry) where
  stale := releaseOrder_of_stale
  wrong := fun current off n =>
    (releaseOrder_of_current current n).trans (if_neg (mt (BookingState.onAirOrOverrun_iff _).1 off))

theorem meterOrder_handleOrder (entry : List Byte) : HandleOrder entry BookingState.OnAir (meterOrder entry) where
  stale := meterOrder_of_stale
  wrong := fun current off n =>
    (meterOrder_of_current current n).trans (if_neg (mt (BookingState.onAirOrOverrun_iff _).1 off))

theorem cancelOrder_handleOrder (entry : List Byte) : HandleOrder entry BookingState.Waits (cancelOrder entry) where
  stale := cancelOrder_of_stale
  wrong := fun current other n => (cancelOrder_of_current current n).trans (if_neg other)

section Refusals

variable {entry : List Byte} {ok : BookingState → Prop} {body : Nat → State → State × OrderReply}
  (order : HandleOrder entry ok body) {s : State} {mtag index code : Nat}
  (arrives : s.orderArrives mtag index code entry) (shape : shapeOk code entry = true)

include order arrives shape

theorem HandleOrder.noBooking (stale : s.bookings[(orderHandle entry).index].gen ≠ (orderHandle entry).gen) :
    s.runOrder code mtag entry body = s.refusedWith mtag index entry .noBooking := by
  have old : (s.dropResponse mtag).handleCurrent (orderHandle entry) = false :=
    Bool.eq_false_iff.2 (mt (s.handleCurrent_iff _).1 stale)
  exact State.runOrder_refused arrives shape (order.stale old index)

theorem HandleOrder.wrongState (current : s.bookings[(orderHandle entry).index].gen = (orderHandle entry).gen)
    (other : ¬ok s.bookings[(orderHandle entry).index].state) :
    s.runOrder code mtag entry body = s.refusedWith mtag index entry .wrongState := by
  have found : (s.dropResponse mtag).handleCurrent (orderHandle entry) = true := (s.handleCurrent_iff _).2 current
  exact State.runOrder_refused arrives shape (order.wrong found other index)

end Refusals

section Done

variable {s : State} {mtag index : Nat} {entry : List Byte}
  (current : s.bookings[(orderHandle entry).index].gen = (orderHandle entry).gen)

include current

theorem exec_release_done (arrives : s.orderArrives mtag index 7 entry) (shape : shapeOk 7 entry = true)
    (onAir : s.bookings[(orderHandle entry).index].state.OnAir) :
    exec (.release mtag entry) s =
      .next (((s.dropResponse mtag).closeBooking (orderHandle entry).index .released false).doneWith index entry false
        (.release (orderHandle entry) s.now)) := by
  have found : (s.dropResponse mtag).handleCurrent (orderHandle entry) = true := (s.handleCurrent_iff _).2 current
  refine congrArg Host.Outcome.next (State.runOrder_done arrives shape ?_)
  exact (releaseOrder_of_current found index).trans (if_pos ((BookingState.onAirOrOverrun_iff _).2 onAir))

theorem exec_cancel_done (arrives : s.orderArrives mtag index 8 entry) (shape : shapeOk 8 entry = true)
    (waits : s.bookings[(orderHandle entry).index].state.Waits) :
    exec (.cancel mtag entry) s =
      .next (((s.dropResponse mtag).cancelBooking (orderHandle entry).index false).doneWith index entry false
        (.cancel (orderHandle entry) (s.bookings[(orderHandle entry).index].late s.now) s.now)) := by
  have found : (s.dropResponse mtag).handleCurrent (orderHandle entry) = true := (s.handleCurrent_iff _).2 current
  refine congrArg Host.Outcome.next (State.runOrder_done arrives shape ?_)
  exact (cancelOrder_of_current found index).trans (if_pos waits)

/-- A METER is answered by its reading, with no change of the tables (R123). -/
theorem exec_meter_done (arrives : s.orderArrives mtag index 9 entry) (shape : shapeOk 9 entry = true)
    (onAir : s.bookings[(orderHandle entry).index].state.OnAir) :
    exec (.meter mtag entry) s =
      .next ((s.dropResponse mtag).answerOrder (.meter (meterReading s.bookings[(orderHandle entry).index]
        (orderHandle entry).index (orderTag entry) index s.now))) := by
  have found : (s.dropResponse mtag).handleCurrent (orderHandle entry) = true := (s.handleCurrent_iff _).2 current
  refine congrArg Host.Outcome.next ((State.runOrder_shaped arrives shape _).trans ?_)
  rw [meterOrder_of_current found index]
  exact congrArg (fun r : State × OrderReply => r.1.answerOrder (r.2.report entry index))
    (if_pos ((BookingState.onAirOrOverrun_iff _).2 onAir))

end Done

/-- Settles O42: the refusals that the three orders share, and what each does with a booking it takes. -/
theorem releaseCancelAndMeter : Obligations.ReleaseCancelAndMeter := by
  intro s mtag index entry h b now s0 aired waits
  refine ⟨fun code c mem arrives shape => ?_,
    fun arrives shape current onAir => exec_release_done current arrives shape onAir,
    fun arrives shape current waits => exec_cancel_done current arrives shape waits,
    fun arrives shape current onAir => ⟨b.meter.closeAt now b.tariff.threshold,
      fun shut => Meter.closeAt_of_closed shut _ _, fun o opened => Meter.closeAt_of_open opened _ _,
      exec_meter_done current arrives shape onAir⟩⟩
  simp only [List.mem_cons, Prod.mk.injEq, List.not_mem_nil, or_false] at mem
  rcases mem with ⟨rfl, rfl⟩ | ⟨rfl, rfl⟩ | ⟨rfl, rfl⟩
  · have order := releaseOrder_handleOrder entry
    refine ⟨fun stale => congrArg _ (order.noBooking arrives shape stale), fun current other => ?_⟩
    exact congrArg _ (order.wrongState arrives shape current (other.resolve_left fun h => absurd h.1 (by decide)).2)
  · have order := cancelOrder_handleOrder entry
    refine ⟨fun stale => congrArg _ (order.noBooking arrives shape stale), fun current other => ?_⟩
    exact congrArg _ (order.wrongState arrives shape current (other.resolve_right fun h => h.1 rfl).2)
  · have order := meterOrder_handleOrder entry
    refine ⟨fun stale => congrArg _ (order.noBooking arrives shape stale), fun current other => ?_⟩
    exact congrArg _ (order.wrongState arrives shape current (other.resolve_left fun h => absurd h.1 (by decide)).2)

end Sys2Proof.Machine


namespace Sys2Proof.Machine

/-! ## Pre-roll and the line check (R112 to R114) -/

theorem dueAt_of_reached {now e : Nat} {x : Option Nat} (armed : x = some e) (reached : e ≤ now) :
    dueAt now x = true := by
  rw [armed]
  exact decide_eq_true reached

/-- An expiry is no event while its condition fails or its time lies ahead. -/
theorem not_due_of_ahead {p : Prop} {now : Nat} {x : Option Nat} (idle : ¬p ∨ ∀ e, x = some e → now < e) :
    ¬(p ∧ dueAt now x = true) := fun ⟨holds, due⟩ =>
  idle.elim (· holds) fun ahead => Bool.eq_false_iff.1 ((dueAt_eq_false_iff now x).2 ahead) due

section Preroll

variable {s : State} {i : Fin 256}

theorem State.namesDisabled_iff (s : State) (i : Fin 256) :
    s.namesDisabled i = true ↔ ∃ x ∈ s.bookings[i].sources, s.sources[x].enabled = false := by
  simp only [State.namesDisabled, List.any_eq_true, Bool.not_eq_true']

theorem State.namesAbsent_iff (s : State) (i : Fin 256) :
    s.namesAbsent i = true ↔ ∃ x ∈ s.bookings[i].sources, s.health[x].state = .absent := by
  simp only [State.namesAbsent, List.any_eq_true, beq_iff_eq, State.healthOf]

theorem State.takePreroll_of_due {e : Nat} (pending : s.bookings[i].state = .pending)
    (armed : s.bookings[i].prerollExp = some e) (reached : e ≤ s.now) :
    s.takePreroll i = if s.namesDisabled i then s.cancelBooking i true else s.enterPreroll i :=
  if_pos ⟨pending, dueAt_of_reached armed reached⟩

theorem State.takeLineWait_of_due {e : Nat} (waiting : s.bookings[i].lineCheck = .waiting)
    (armed : s.bookings[i].lineExp = some e) (reached : e ≤ s.now) : s.takeLineWait i = s.endLineCheck i .wait :=
  if_pos ⟨waiting, dueAt_of_reached armed reached⟩

/-! ### PREROLL entry (R112, R113) -/

theorem State.prerolled_bookings (i : Fin 256) (s : State) : (s.prerolled i).bookings = s.bookings.set i
    { s.bookings[i] with state := .preroll, prerollExp := none, startExp := some s.bookings[i].startS } := rfl

theorem State.prerolled_namesAbsent (i : Fin 256) (s : State) : (s.prerolled i).namesAbsent i = s.namesAbsent i := by
  have sources : (s.prerolled i).bookings[i].sources = s.bookings[i].sources := by
    rw [s.prerolled_booking i]
    rfl
  rw [State.namesAbsent, sources]
  rfl

theorem State.enterPreroll_eq (i : Fin 256) (s : State) : s.enterPreroll i = (s.prerolled i).beginLineCheck i := rfl

/-- The line check waits where a source is ABSENT and a wait is set (R113). -/
theorem State.beginLineCheck_of_waits (absent : s.namesAbsent i = true) (wait : s.ctl.settings.lineWait ≠ 0) :
    s.beginLineCheck i = s.modBooking i fun b =>
      { b with lineCheck := .waiting, lineExp := some (s.now + s.ctl.settings.lineWait) } := by
  refine if_neg ?_
  rw [absent, Bool.not_true, Bool.false_or, beq_iff_eq]
  exact wait

/-- It ends at once where it does not wait (R113). -/
theorem State.beginLineCheck_of_ready (ready : ¬(s.namesAbsent i = true ∧ s.ctl.settings.lineWait ≠ 0)) :
    s.beginLineCheck i = s.endLineCheck i .entry := by
  refine if_pos ?_
  rw [Bool.or_eq_true, Bool.not_eq_true', beq_iff_eq, ← Bool.not_eq_true]
  exact (not_and_or.1 ready).imp_right not_not.1

end Preroll

/-- Settles O44: the two expiries by whether they are due, PREROLL entry by its line check, and the notice. -/
theorem prerollAndLineCheck : Obligations.PrerollAndLineCheck := by
  intro s i
  have absent := and_congr_left' (c := s.ctl.settings.lineWait ≠ 0) (s.namesAbsent_iff i)
  refine ⟨fun pending e armed reached => ⟨fun disabled => ?_, fun enabled => ?_⟩,
    fun idle => congrArg Host.Outcome.next (if_neg (not_due_of_ahead idle)),
    ⟨s.prerolled i, rfl, fun distinct => raiseUse_sources distinct s.useCounts, fun waits => ?_, fun ready => ?_⟩,
    fun waiting e armed reached => congrArg Host.Outcome.next (State.takeLineWait_of_due waiting armed reached),
    fun idle => congrArg Host.Outcome.next (if_neg (not_due_of_ahead idle)), fun trigger => rfl⟩
  · refine congrArg Host.Outcome.next ((State.takePreroll_of_due pending armed reached).trans ?_)
    exact if_pos ((s.namesDisabled_iff i).2 disabled)
  · refine congrArg Host.Outcome.next ((State.takePreroll_of_due pending armed reached).trans
      (if_neg fun disabled => ?_))
    obtain ⟨x, named, off⟩ := (s.namesDisabled_iff i).1 disabled
    exact Bool.eq_false_iff.1 off (enabled x named)
  · obtain ⟨named, wait⟩ := absent.2 waits
    rw [← s.prerolled_namesAbsent i] at named
    rw [s.enterPreroll_eq i, State.beginLineCheck_of_waits named wait]
    exact State.modBooking_of_set (s.prerolled_bookings i) _
  · rw [← s.prerolled_namesAbsent i] at absent
    rw [s.enterPreroll_eq i]
    exact State.beginLineCheck_of_ready (mt absent.1 ready)

/-! ## The start, the end and the cap (R115 to R118) -/

/-- The holders that a start closes, in ascending order (R115). -/
theorem State.holdersFor_eq (s : State) (i : Fin 256) : s.holdersFor i = (List.finRange 256).filter fun a =>
    decide (a ≠ i ∧ ∃ w ∈ s.bookings[i].windows, (s.windows[w].holder.map fun h => h.index) = some a) := by
  refine List.filter_congr fun a _ => Bool.eq_iff_iff.2 ?_
  rw [Bool.and_eq_true, bne_iff_ne, List.any_eq_true, decide_eq_true_iff]
  refine and_congr_right fun _ => exists_congr fun w => and_congr_right fun _ => ?_
  cases s.windows[w].holder with
  | none => exact iff_of_false nofun nofun
  | some h => exact beq_iff_eq.trans Option.some_inj.symm

section Expiries

variable {s : State} {i : Fin 256} {e : Nat}

theorem State.takeStart_of_due (preroll : s.bookings[i].state = .preroll) (armed : s.bookings[i].startExp = some e)
    (reached : e ≤ s.now) : s.takeStart i = s.startBooking i false :=
  if_pos ⟨preroll, dueAt_of_reached armed reached⟩

theorem State.takeCap_of_due (overrun : s.bookings[i].state = .overrun) (armed : s.bookings[i].capExp = some e)
    (reached : e ≤ s.now) : s.takeCap i = s.closeBooking i .capped false :=
  if_pos ⟨overrun, dueAt_of_reached armed reached⟩

/-- A booking that may be held on enters OVERRUN at its end, and any other closes (R117). -/
theorem State.takeEnd_of_due (onAir : s.bookings[i].state = .onAir) (armed : s.bookings[i].endExp = some e)
    (reached : e ≤ s.now) : s.takeEnd i =
      if s.bookings[i].holdOn = true ∧ 0 < s.bookings[i].maxOver then s.enterOverrun i
      else s.closeBooking i .planned false :=
  if_pos ⟨onAir, dueAt_of_reached armed reached⟩

end Expiries

/-- Settles O45: the start as the closes and ON_AIR entry, and each expiry by whether it is due. -/
theorem startAndEndExpiries : Obligations.StartAndEndExpiries := by
  refine ⟨fun s i => ⟨fun fresh => ?_,
      fun preroll e armed reached => congrArg Host.Outcome.next (State.takeStart_of_due preroll armed reached),
      fun idle => congrArg Host.Outcome.next (if_neg (not_due_of_ahead idle))⟩,
    fun s i => ⟨fun onAir e armed reached => ⟨fun hold cap => ?_, fun ends => ?_⟩,
      fun idle => congrArg Host.Outcome.next (if_neg (not_due_of_ahead idle)),
      fun overrun e armed reached => congrArg Host.Outcome.next (State.takeCap_of_due overrun armed reached),
      fun idle => congrArg Host.Outcome.next (if_neg (not_due_of_ahead idle))⟩⟩
  · rw [← s.holdersFor_eq i]
    rfl
  · exact congrArg Host.Outcome.next ((State.takeEnd_of_due onAir armed reached).trans (if_pos ⟨hold, cap⟩))
  · refine congrArg Host.Outcome.next ((State.takeEnd_of_due onAir armed reached).trans (if_neg fun held => ?_))
    obtain ⟨hold, cap⟩ := held
    exact ends.elim (fun off => Bool.eq_false_iff.1 off hold) cap.ne'

end Sys2Proof.Machine


namespace Sys2Proof.Machine

/-! ## The decision of a header read (R134 to R138) -/

/-! ### The usable legs (R135) -/

/-- A usable leg is admitted, named and available. -/
theorem State.mem_usableLegs_iff {s : State} {i : Fin 256} {p : LegName × Fin 48} : p ∈ s.usableLegs i ↔
    p.1 ∈ s.admittedLegs i ∧ s.bookings[i].legSource? p.1 = some p.2 ∧ s.available p.2 = true := by
  obtain ⟨l, x⟩ := p
  rw [State.usableLegs, List.mem_filterMap]
  constructor
  · rintro ⟨a, admitted, named⟩
    split at named
    · cases named
    · next y source =>
      split at named
      · next up =>
        cases named
        exact ⟨admitted, source, up⟩
      · cases named
  · rintro ⟨admitted, source, up⟩
    exact ⟨l, admitted, by simp only [source, up, if_true]⟩

section UsableLegs

variable (s : State) (i : Fin 256)

/-- A leg with its source, where the source is available (R82). -/
def State.legIfUp (l : LegName) (x : Fin 48) : List (LegName × Fin 48) :=
  if s.available x then [(l, x)] else []

theorem State.legIfUp_eq (l : LegName) (x : Fin 48) : s.legIfUp l x =
    if s.health[x].state = .good ∨ s.health[x].state = .suspect then [(l, x)] else [] :=
  if_congr (HealthState.available_iff s.health[x].state) rfl rfl

/-- The usable leg of a name, if there is one. -/
def State.usableLeg (l : LegName) : List (LegName × Fin 48) :=
  (s.bookings[i].legSource? l).toList.flatMap (s.legIfUp l)

/-- The usable legs are those of the admitted names, in their order. -/
theorem State.usableLegs_eq_flatMap : s.usableLegs i = (s.admittedLegs i).flatMap (s.usableLeg i) := by
  unfold State.usableLegs
  generalize s.admittedLegs i = legs
  induction legs with
  | nil => rfl
  | cons l legs ih =>
    rw [List.filterMap_cons, List.flatMap_cons, ih, State.usableLeg]
    cases s.bookings[i].legSource? l with
    | none => rfl
    | some x => cases up : s.available x <;> simp [State.legIfUp, up]

theorem State.usableLeg_main : s.usableLeg i .main = s.legIfUp .main s.bookings[i].main :=
  List.flatMap_singleton (s.legIfUp .main) s.bookings[i].main

variable {s i}

theorem State.usableLegs_of_none (mode : s.bookings[i].mode = .none) : s.usableLegs i = s.usableLeg i .main := by
  rw [State.usableLegs_eq_flatMap]
  simp only [State.admittedLegs, mode, List.flatMap_singleton]

theorem State.usableLegs_of_merge (mode : s.bookings[i].mode = .merge) :
    s.usableLegs i = s.usableLeg i .main ++ s.usableLeg i .backup := by
  rw [State.usableLegs_eq_flatMap]
  simp only [State.admittedLegs, mode, List.flatMap_cons, List.flatMap_nil, List.append_nil]

/-- In SWITCH mode the active leg alone is admitted (R135). -/
theorem State.usableLegs_of_switch (mode : s.bookings[i].mode = .switch) :
    s.usableLegs i = (s.activeOf i).toList.flatMap (s.usableLeg i) := by
  rw [State.usableLegs_eq_flatMap]
  simp only [State.admittedLegs, mode]

theorem State.activeOf_of_record {l : Leg} (record : s.legs[i] = some l) : s.activeOf i = l.active := by
  simp only [State.activeOf, record]

theorem State.activeOf_of_no_record (record : s.legs[i] = none) : s.activeOf i = none := by
  simp only [State.activeOf, record]

end UsableLegs

/-! ### The candidate (R138) -/

section Candidate

variable {s : State} {last : Option Word16} {m : Nat}

/-- The leg offers no candidate: the entry at its mapped slot, if it is valid, is not newer than the last sequence. -/
def State.offersNone (s : State) (last : Option Word16) (m : Nat) (p : LegName × Fin 48) : Prop :=
  ∀ y, s.slotOf p.2 m = some y → newerThan y.seq last = false

theorem State.candidate_cons_of_offersNone {p : LegName × Fin 48} (pass : s.offersNone last m p)
    (rest : List (LegName × Fin 48)) : s.candidate last m (p :: rest) = s.candidate last m rest := by
  cases slot : s.slotOf p.2 m with
  | none => simp only [State.candidate, slot]
  | some y => simp only [State.candidate, slot, pass y slot, Bool.false_eq_true, if_false]

theorem State.candidate_cons_of_newer {leg : LegName} {x : Fin 48} {e : SlotEntry} (slot : s.slotOf x m = some e)
    (newer : newerThan e.seq last = true) (rest : List (LegName × Fin 48)) :
    s.candidate last m ((leg, x) :: rest) = some (leg, x, e) := by
  simp only [State.candidate, slot, newer, if_true]

/-- The legs that offer none are passed over. -/
theorem State.candidate_append_of_offersNone {pre : List (LegName × Fin 48)} (pass : ∀ p ∈ pre, s.offersNone last m p)
    (rest : List (LegName × Fin 48)) : s.candidate last m (pre ++ rest) = s.candidate last m rest := by
  induction pre with
  | nil => rfl
  | cons p pre ih =>
    rw [List.cons_append, State.candidate_cons_of_offersNone (pass p List.mem_cons_self),
      ih fun q mem => pass q (List.mem_cons_of_mem p mem)]

theorem State.candidate_eq_none {legs : List (LegName × Fin 48)} (pass : ∀ p ∈ legs, s.offersNone last m p) :
    s.candidate last m legs = none := by
  rw [← List.append_nil legs, State.candidate_append_of_offersNone pass]
  rfl

/-- The candidate is offered by one of the legs. -/
theorem State.mem_of_candidate {legs : List (LegName × Fin 48)} {leg : LegName} {x : Fin 48} {e : SlotEntry}
    (found : s.candidate last m legs = some (leg, x, e)) : (leg, x) ∈ legs := by
  induction legs with
  | nil => cases found
  | cons p legs ih =>
    by_cases pass : s.offersNone last m p
    · rw [State.candidate_cons_of_offersNone pass] at found
      exact List.mem_cons_of_mem p (ih found)
    · simp only [State.offersNone, not_forall, Bool.not_eq_false] at pass
      obtain ⟨y, slot, newer⟩ := pass
      rw [State.candidate_cons_of_newer slot newer] at found
      cases found
      exact List.mem_cons_self

theorem State.missReason_eq (s : State) (m : Nat) (legs : List (LegName × Fin 48)) :
    s.missReason m legs = if ∃ p ∈ legs, (s.slotOf p.2 m).isSome = true then .underrun else .void := by
  unfold State.missReason
  exact if_congr List.any_eq_true rfl rfl

end Candidate

/-! ### The stages (R134 to R138) -/

section Stages

variable {s : State} {w : Window} (k : Nat)

theorem State.headerDecision_of_unheld (holder : w.holder = none) : s.headerDecision w k = .fill w .unrouted := by
  simp only [State.headerDecision, holder]

/-- The candidate stage, once the leg and the candidate are found. -/
theorem State.candidateStage_of_some {legs : List (LegName × Fin 48)} {leg : LegName} {x : Fin 48} {e : SlotEntry}
    (found : s.candidate w.last ((k + w.shift) % s.ctl.settings.d) legs = some (leg, x, e)) :
    s.candidateStage w k legs = .deliver w leg x ((k + w.shift) % s.ctl.settings.d) e := by
  simp only [State.candidateStage, found]

theorem State.candidateStage_of_none {legs : List (LegName × Fin 48)}
    (found : s.candidate w.last ((k + w.shift) % s.ctl.settings.d) legs = none) :
    s.candidateStage w k legs = .fill w (s.missReason ((k + w.shift) % s.ctl.settings.d) legs) := by
  simp only [State.candidateStage, found]

variable {h : Handle} (holder : w.holder = some h)

include holder

theorem State.headerDecision_of_down (down : s.usableLegs h.index = []) :
    s.headerDecision w k = .fill w .sourceDown := by
  simp only [State.headerDecision, holder, down]

theorem State.headerDecision_of_legs {leg : LegName × Fin 48} {rest : List (LegName × Fin 48)}
    (legs : s.usableLegs h.index = leg :: rest) : s.headerDecision w k = s.takeStage w k leg (leg :: rest) := by
  simp only [State.headerDecision, holder, legs]

/-- Without a pending take the candidate is sought at once (R136). -/
theorem State.headerDecision_of_taken (legs : s.usableLegs h.index ≠ []) (taken : w.takePending = false) :
    s.headerDecision w k = s.candidateStage w k (s.usableLegs h.index) := by
  obtain ⟨leg, rest, legs⟩ := List.exists_cons_of_ne_nil legs
  rw [State.headerDecision_of_legs k holder legs, legs, State.takeStage, if_neg (Bool.eq_false_iff.1 taken)]

variable {leg : LegName × Fin 48} {rest : List (LegName × Fin 48)} (legs : s.usableLegs h.index = leg :: rest)
  (pending : w.takePending = true)

include legs pending

theorem State.headerDecision_of_noBaseline
    (absent : s.sources[leg.2].newest = none ∨ s.sources[leg.2].last = none) :
    s.headerDecision w k = .fill w .noBaseline := by
  rw [State.headerDecision_of_legs k holder legs, State.takeStage, if_pos pending]
  split
  · next newest last =>
    rcases absent with absent | absent
    · cases newest.symm.trans absent
    · cases last.symm.trans absent
  · rfl

/-- A take, and then the candidate stage with the record it leaves (R137). -/
theorem State.headerDecision_of_take {n : Nat} {sh : Word16} (newest : s.sources[leg.2].newest = some n)
    (last : s.sources[leg.2].last = some sh) :
    s.headerDecision w k = s.candidateStage (w.take s.ctl.settings.d k n sh) k (leg :: rest) := by
  rw [State.headerDecision_of_legs k holder legs, State.takeStage, if_pos pending]
  simp only [newest, last]

/-- The decision after a take is that of a window whose take is done. -/
theorem State.headerDecision_of_take_done {n : Nat} {sh : Word16} (newest : s.sources[leg.2].newest = some n)
    (last : s.sources[leg.2].last = some sh) :
    s.headerDecision w k = s.headerDecision (w.take s.ctl.settings.d k n sh) k := by
  have taken : (w.take s.ctl.settings.d k n sh).holder = some h := holder
  rw [State.headerDecision_of_take k holder legs pending newest last,
    State.headerDecision_of_taken k taken (by rw [legs]; nofun) rfl, legs]

end Stages

/-- Settles O16: the usable legs by mode, and the decision by the stage it reaches. -/
theorem headerReadDecisionStages : Obligations.HeaderReadDecisionStages := by
  refine ⟨fun s i => ?_, fun s w k => ⟨State.headerDecision_of_unheld k, fun h holder =>
    ⟨State.headerDecision_of_down k holder, fun leg rest => State.headerDecision_of_noBaseline k holder,
      fun leg rest n sh legs pending => State.headerDecision_of_take_done k holder legs pending,
      fun pre leg x post e legs taken pass slot newer => ?_, fun legs taken pass => ?_⟩⟩⟩
  · intro b up one main backup
    have main_eq : s.usableLeg i .main = main := (s.usableLeg_main i).trans (s.legIfUp_eq _ _)
    have backup_eq : s.usableLeg i .backup = backup := by
      have unfolded : s.usableLeg i .backup = b.backup.toList.flatMap (s.legIfUp .backup) := rfl
      rw [unfolded]
      cases named : b.backup with
      | none => simp only [backup, named]; rfl
      | some x => simp only [backup, named]; exact (List.flatMap_singleton _ _).trans (s.legIfUp_eq _ _)
    refine ⟨fun mode => (State.usableLegs_of_none mode).trans main_eq, fun mode => ?_, fun mode l record => ?_,
      fun mode record => ?_⟩
    · rw [State.usableLegs_of_merge mode, main_eq, backup_eq]
    · rw [State.usableLegs_of_switch mode, State.activeOf_of_record record]
      refine ⟨fun active => ?_, fun active => ?_, fun active => ?_⟩ <;> rw [active]
      · exact (List.flatMap_singleton _ _).trans main_eq
      · exact (List.flatMap_singleton _ _).trans backup_eq
      · rfl
    · rw [State.usableLegs_of_switch mode, State.activeOf_of_no_record record]
      rfl
  · have some_leg : s.usableLegs h.index ≠ [] := by rw [legs]; simp
    rw [State.headerDecision_of_taken k holder some_leg taken, legs]
    refine State.candidateStage_of_some k ?_
    rw [State.candidate_append_of_offersNone pass, State.candidate_cons_of_newer slot newer]
  · rw [State.headerDecision_of_taken k holder legs taken,
      State.candidateStage_of_none k (State.candidate_eq_none pass), State.missReason_eq]

end Sys2Proof.Machine


namespace Sys2Proof.Machine

/-! ## Payload reads (R145) -/

section PayloadRead

variable {s : State} {t : Txn} {i : Fin 32} {k off : Nat}

/-- A read that the decode hands to window `i` at a slot offset other than 0 is a payload read (R132). -/
theorem exec_payloadRead (decodes : s.decodes t (.translate i k off)) (payload : off ≠ 0) :
    exec (.payloadRead t) s = .next (s.windowPayloadRead t i k off) := by
  rw [exec_of_presents (Or.inr (Or.inr (Or.inr rfl))), State.present_of_decodes decodes,
    State.accept_of_translate decodes, State.windowRead, if_neg payload]

/-- A SOURCE binding translates the read to the bound slot (R145). -/
theorem State.windowPayloadRead_of_source {src : Fin 48} {m len : Nat} {q : Word16} {leg : LegName}
    (bound : s.windows[i].bindings[k]? = some (.source src m q len leg)) :
    s.windowPayloadRead t i k off =
      s.entered { txn := { t with addr := s.sourceAddr src m off }, cls := .egress, rewrite := none } := by
  simp only [State.windowPayloadRead, List.getD, bound, Option.getD_some]
  rfl

/-- Any other slot is answered with zeros (R145). -/
theorem State.windowPayloadRead_of_unbound
    (unbound : ∀ src m q len leg, s.windows[i].bindings[k]? ≠ some (.source src m q len leg)) :
    s.windowPayloadRead t i k off = s.answered t (.okay (zeros t.access.length)) := by
  have other : ∀ src m q len leg, s.windows[i].bindings.getD k .none ≠ .source src m q len leg := by
    intro src m q len leg bound
    rw [List.getD] at bound
    cases entry : s.windows[i].bindings[k]? with
    | none =>
      rw [entry] at bound
      cases bound
    | some b =>
      rw [entry, Option.getD_some] at bound
      exact unbound src m q len leg (entry.trans (congrArg some bound))
  unfold State.windowPayloadRead
  split
  · next src m q len leg bound => exact absurd bound (other src m q len leg)
  · rfl
  · rfl

end PayloadRead

/-- Settles O19: the read follows its binding, and nothing but the port changes. -/
theorem payloadReadFollowsTheBinding : Obligations.PayloadReadFollowsTheBinding := by
  refine fun t s i k off r decodes payload ingress => ⟨fun src m q len leg bound => ?_, fun unbound => ?_⟩
  · rw [exec_payloadRead decodes payload, State.windowPayloadRead_of_source bound, State.sourceAddr_of_ingress ingress]
  · rw [exec_payloadRead decodes payload, State.windowPayloadRead_of_unbound unbound]
    rfl

/-! ## DEFINE_WINDOW (R128, R129) -/

/-- The guard depth is held at half the ring depth (R128). -/
theorem guardUsed_eq (d v : Nat) : guardUsed d v = if d / 2 < v then d / 2 else v := by
  unfold guardUsed
  split <;> omega

theorem guardUsed_bne (d v : Nat) : (guardUsed d v != v) = decide (d / 2 < v) := by
  rw [Bool.eq_iff_iff, bne_iff_ne, decide_eq_true_iff]
  unfold guardUsed
  omega

section DefineWindow

variable {s : State} {mtag index : Nat} {entry : List Byte} (arrives : s.orderArrives mtag index 10 entry)
  (shape : shapeOk 10 entry = true)

include arrives shape

theorem exec_defineWindow_range (outside : 32 ≤ field entry 8 2) :
    exec (.defineWindow mtag entry) s = .next (s.refusedWith mtag index entry .range) := by
  have none : indexOf? 32 (field entry 8 2) = none := dif_neg (Nat.not_lt.2 outside)
  refine congrArg Host.Outcome.next (State.runOrder_refused arrives shape ?_)
  simp only [defineWindowOrder, none]

variable {i : Fin 32} (numbered : field entry 8 2 = i.val)

include numbered

theorem exec_defineWindow_inUse (held : s.windows[i].holder ≠ none) (other : word16At entry 0x0A ≠ s.windows[i].tag) :
    exec (.defineWindow mtag entry) s = .next (s.refusedWith mtag index entry .inUse) := by
  refine congrArg Host.Outcome.next (State.runOrder_refused arrives shape ?_)
  simp only [defineWindowOrder, indexOf?_eq_some_iff.2 numbered.symm]
  exact if_pos ⟨Option.isSome_iff_ne_none.2 held, other⟩

theorem exec_defineWindow_done (allowed : s.windows[i].holder = none ∨ word16At entry 0x0A = s.windows[i].tag) :
    exec (.defineWindow mtag entry) s = .next
      (((s.dropResponse mtag).putWindow i (s.windows[i].define (word16At entry 0x0A)
        (guardUsed s.ctl.settings.d (field entry 0x0C 2)))).doneWith index entry
        (guardUsed s.ctl.settings.d (field entry 0x0C 2) != field entry 0x0C 2)
        (.defineWindow i s.windows[i].defined (word16At entry 0x0A)
          (guardUsed s.ctl.settings.d (field entry 0x0C 2)) s.windows[i].snapshot)) := by
  refine congrArg Host.Outcome.next (State.runOrder_done arrives shape ?_)
  simp only [defineWindowOrder, indexOf?_eq_some_iff.2 numbered.symm]
  refine if_neg fun ⟨held, other⟩ => ?_
  exact allowed.elim (Option.isSome_iff_ne_none.1 held) other

end DefineWindow

/-- Settles O43: the refusals in order, else the record takes the tag and the guard depth as held. -/
theorem defineWindowRecordsTagAndGuard : Obligations.DefineWindowRecordsTagAndGuard := by
  refine fun s mtag index entry arrives => ⟨fun i inside unused nonzero => ?_,
    fun shape outside => exec_defineWindow_range arrives shape outside,
    fun i shape numbered => ⟨exec_defineWindow_inUse arrives shape numbered, fun allowed => ?_⟩⟩
  · exact congrArg Host.Outcome.next
      (State.runOrder_malformed arrives (shapeOk_eq_false_of_stray_byte inside unused nonzero) _)
  · rw [exec_defineWindow_done arrives shape numbered allowed, guardUsed_bne, guardUsed_eq]
    rfl

end Sys2Proof.Machine


namespace Sys2Proof.Machine

/-! ## What every step keeps of the routing (R125, R130, R131, R146, R166)

The holders of the windows, the settlement list and the SOURCE bindings change at few places: the close of a booking,
a settlement that enters, ON_AIR entry, and a read or a definition of one window. A property of them that each of those
keeps, and that tables which agree have in common, is kept by every step. -/

/-! ### The laws -/

/-- Each SOURCE binding of the window names a source of its holder, and is not newer than the last delivered sequence
(R146). -/
def Window.Bound (s : State) (w : Window) : Prop :=
  ∀ (src : Fin 48) (m : Nat) (q : Word16) (len : Nat) (leg : LegName), .source src m q len leg ∈ w.bindings →
    (∃ h, w.holder = some h ∧ src ∈ s.bookings[h.index].sources) ∧ ∃ l, w.last = some l ∧ newer q l = false

/-- The bindings of every window are bound. -/
def State.boundLaw (s : State) : Prop := ∀ w : Fin 32, s.windows[w].Bound s

theorem State.boundLaw_iff (s : State) : s.boundLaw ↔ s.bindingLaw ∧ s.bindingSourceLaw := by
  constructor
  · intro law
    refine ⟨fun w k src m q len leg entry => ?_, fun w k src m q len leg entry => ?_⟩
    · obtain ⟨⟨h, holder, _⟩, last⟩ := law w src m q len leg (List.mem_of_getElem? entry)
      exact ⟨Option.isSome_of_mem holder, last⟩
    · exact (law w src m q len leg (List.mem_of_getElem? entry)).1
  · rintro ⟨binding, named⟩ w src m q len leg mem
    obtain ⟨k, entry⟩ := List.mem_iff_getElem?.1 mem
    exact ⟨named w k src m q len leg entry, (binding w k src m q len leg entry).2⟩

section Bound

variable {s t : State} {w : Window}

/-- A window whose bindings are cleared is bound. -/
theorem Window.Bound.of_none (none : ∀ x ∈ w.bindings, x = .none) : w.Bound s :=
  fun _ _ _ _ _ mem => nomatch none _ mem

theorem Window.Bound.handed (w : Window) (holder : Option Handle) (take : Bool) : (w.handed holder take).Bound s := by
  refine .of_none fun x mem => ?_
  obtain ⟨_, _, cleared⟩ := List.mem_map.1 mem
  exact cleared.symm

theorem Window.Bound.reset (d : Nat) : (Window.reset d).Bound s :=
  .of_none fun _ mem => List.eq_of_mem_replicate mem

/-- The law of a window reads the sources of its holder alone. -/
theorem Window.Bound.congr (bound : w.Bound s)
    (sources : ∀ h, w.holder = some h → t.bookings[h.index].sources = s.bookings[h.index].sources) : w.Bound t := by
  intro src m q len leg mem
  obtain ⟨⟨h, holder, named⟩, last⟩ := bound src m q len leg mem
  exact ⟨⟨h, holder, (sources h holder).symm ▸ named⟩, last⟩

end Bound

/-! ### Changes that leave them -/

/-- `c` is on air as `b` is, and then has its generation, windows and sources. -/
structure Booking.Airs (b c : Booking) : Prop where
  onAir : c.state.onAirOrOverrun = b.state.onAirOrOverrun
  gen : b.state.onAirOrOverrun = true → c.gen = b.gen
  windows : b.state.onAirOrOverrun = true → c.windows = b.windows
  sources : b.state.onAirOrOverrun = true → c.sources = b.sources

/-- `c` airs as `b` does, and settles as it does. -/
structure Booking.Routes (b c : Booking) : Prop extends b.Airs c where
  settling : c.state = .settling ↔ b.state = .settling
  held : c.held.isSome = b.held.isSome

/-- `t` has the windows, the settlements and the bookings of `s` as far as their laws read them. -/
structure RoutingFrame (s t : State) : Prop where
  windows : t.windows = s.windows
  settlements : t.settlements = s.settlements
  bookings : ∀ i : Fin 256, s.bookings[i].Routes t.bookings[i]

section Airs

variable {b c d : Booking}

/-- Neither booking is on air. -/
theorem Booking.Airs.of_off (before : b.state.onAirOrOverrun = false) (after : c.state.onAirOrOverrun = false) :
    b.Airs c :=
  ⟨after.trans before.symm, fun on => absurd on (Bool.eq_false_iff.1 before),
    fun on => absurd on (Bool.eq_false_iff.1 before), fun on => absurd on (Bool.eq_false_iff.1 before)⟩

theorem Booking.Airs.trans (h : b.Airs c) (k : c.Airs d) : b.Airs d where
  onAir := k.onAir.trans h.onAir
  gen on := (k.gen (h.onAir.trans on)).trans (h.gen on)
  windows on := (k.windows (h.onAir.trans on)).trans (h.windows on)
  sources on := (k.sources (h.onAir.trans on)).trans (h.sources on)

theorem Booking.Routes.trans (h : b.Routes c) (k : c.Routes d) : b.Routes d where
  toAirs := h.toAirs.trans k.toAirs
  settling := k.settling.trans h.settling
  held := k.held.trans h.held

/-- The booking changes in what the laws do not read. -/
theorem Booking.Routes.of_same (state : c.state = b.state) (gen : c.gen = b.gen) (windows : c.windows = b.windows)
    (sources : c.sources = b.sources) (held : c.held.isSome = b.held.isSome) : b.Routes c :=
  ⟨⟨by rw [state], fun _ => gen, fun _ => windows, fun _ => sources⟩, by rw [state], held⟩

theorem Booking.Routes.refl (b : Booking) : b.Routes b := .of_same rfl rfl rfl rfl rfl

theorem Booking.Routes.of_eq (same : c = b) : b.Routes c := same ▸ .refl b

/-- A booking on air moves between ON_AIR and OVERRUN. -/
theorem Booking.Routes.of_onAir (before : b.state.onAirOrOverrun = true) (after : c.state.onAirOrOverrun = true)
    (gen : c.gen = b.gen) (windows : c.windows = b.windows) (sources : c.sources = b.sources)
    (held : c.held.isSome = b.held.isSome) : b.Routes c where
  onAir := after.trans before.symm
  gen _ := gen
  windows _ := windows
  sources _ := sources
  settling := iff_of_false (fun settling => by rw [settling] at after; cases after)
    fun settling => by rw [settling] at before; cases before
  held := held

end Airs

namespace RoutingFrame

variable {s t u : State}

theorem trans (h : RoutingFrame s t) (k : RoutingFrame t u) : RoutingFrame s u where
  windows := k.windows.trans h.windows
  settlements := k.settlements.trans h.settlements
  bookings i := (h.bookings i).trans (k.bookings i)

theorem ofSame (windows : t.windows = s.windows) (settlements : t.settlements = s.settlements)
    (bookings : t.bookings = s.bookings) : RoutingFrame s t :=
  ⟨windows, settlements, fun i => .of_eq (by rw [bookings])⟩

theorem refl (s : State) : RoutingFrame s s := .ofSame rfl rfl rfl

theorem ofTables (same : t.tables = s.tables) : RoutingFrame s t := by
  simp only [State.tables, Prod.mk.injEq] at same
  obtain ⟨_, _, _, bookings, _, _, windows, settlements⟩ := same
  exact .ofSame windows settlements bookings

/-- One booking changes, and the windows and the settlements stand. -/
theorem ofEntry {i : Fin 256} (windows : t.windows = s.windows) (settlements : t.settlements = s.settlements)
    (entry : s.bookings[i].Routes t.bookings[i]) (others : ∀ j, j ≠ i → t.bookings[j] = s.bookings[j]) :
    RoutingFrame s t := by
  refine ⟨windows, settlements, fun j => ?_⟩
  by_cases same : j = i
  · exact same ▸ entry
  · exact .of_eq (others j same)

theorem modBooking {i : Fin 256} {f : Booking → Booking} (entry : s.bookings[i].Routes (f s.bookings[i])) :
    RoutingFrame s (s.modBooking i f) :=
  .ofEntry rfl rfl ((State.modBooking_same i f s).symm ▸ entry) fun _ other => State.modBooking_other other.symm f s

end RoutingFrame

theorem State.bookingsQuiet.routes {s t : State} (h : s.bookingsQuiet t) (i : Fin 256) :
    s.bookings[i].Routes t.bookings[i] :=
  h i ▸ .of_same rfl rfl rfl rfl rfl

theorem QuietStep.routingFrame {s t : State} (h : QuietStep s t) : RoutingFrame s t :=
  ⟨h.windows, h.settlements, h.bookings.routes⟩

theorem SourceStep.routingFrame {src : Fin 48} {s t : State} (h : SourceStep src s t) : RoutingFrame s t :=
  ⟨h.windows, h.settlements, h.bookings.routes⟩

section Frames

variable (s : State)

theorem State.takeSilence_routingFrame (i : Fin 48) : RoutingFrame s (s.takeSilence i) := by
  unfold State.takeSilence
  split
  · exact (s.setHealth_sourceStep i _ _).routingFrame
  · exact .refl s

theorem State.takeRestore_routingFrame (i : Fin 256) : RoutingFrame s (s.takeRestore i) := by
  unfold State.takeRestore
  repeat' split
  case h_2.isTrue => exact (State.restoreLeg_quiet _ _ _).routingFrame
  all_goals exact .refl s

theorem State.takeLineWait_routingFrame (i : Fin 256) : RoutingFrame s (s.takeLineWait i) := by
  unfold State.takeLineWait
  split
  · exact (State.endLineCheck_quiet _ _ _).routingFrame
  · exact .refl s

theorem State.setHouse_routingFrame (new : Nat) : RoutingFrame s (s.setHouse new) := by
  refine ⟨rfl, rfl, fun i => ?_⟩
  rw [State.setHouse_booking]
  exact .of_same rfl rfl rfl rfl rfl

variable {s} {i : Fin 256}

theorem State.enterOverrun_routingFrame (onAir : s.bookings[i].state = .onAir) :
    RoutingFrame s (s.enterOverrun i) := by
  have entered : RoutingFrame s (s.modBooking i fun b =>
      { b with state := .overrun, endExp := none, capExp := some (b.endE + b.maxOver) }) :=
    .modBooking (.of_onAir (by rw [onAir]; rfl) rfl rfl rfl rfl rfl)
  exact entered.trans (State.offer_quiet _ _).routingFrame

theorem Booking.extended_routes (b : Booking) (e now : Nat) : b.Routes (b.extended e now) := by
  cases state : b.state <;> simp only [Booking.extended, state]
  case overrun =>
    split <;> exact .of_onAir (by rw [state]; rfl) rfl rfl rfl rfl rfl
  all_goals exact .of_same state.symm rfl rfl rfl rfl

theorem State.extendBooking_routingFrame (i : Fin 256) (e : Nat) (s : State) : RoutingFrame s (s.extendBooking i e) :=
  .ofEntry rfl rfl ((State.extendBooking_booking i e s).symm ▸ s.bookings[i].extended_routes e s.now)
    fun _ other => State.extendBooking_booking_other other e s

/-- PREROLL entry (R112). -/
theorem State.enterPreroll_routingFrame (pending : s.bookings[i].state = .pending) :
    RoutingFrame s (s.enterPreroll i) := by
  have quiet : QuietStep (s.prerolled i) (s.enterPreroll i) := State.beginLineCheck_quiet i (s.prerolled i)
  have entered : s.bookings[i].Routes (s.prerolled i).bookings[i] := by
    rw [s.prerolled_booking i]
    exact ⟨.of_off (by rw [pending]; rfl) rfl, iff_of_false nofun (by rw [pending]; nofun), rfl⟩
  have others : s.othersStand i (s.prerolled i) :=
    (s.claimed_othersStand i true).trans (State.modBooking_othersStand i (s.claim i) _)
  have prerolled : RoutingFrame s (s.prerolled i) := .ofEntry rfl rfl entered fun j other => (others j other).1
  exact prerolled.trans quiet.routingFrame

/-- A FREE entry takes a booking (R111). -/
theorem State.recordBooking_routingFrame (o : BookOrder) (free : s.bookings[i].state = .free)
    (unheld : s.bookings[i].held.isSome = false) : RoutingFrame s (s.recordBooking i o) := by
  refine .ofEntry rfl rfl ?_ fun _ other => State.recordBooking_booking_other other o s
  rw [State.recordBooking_booking]
  exact ⟨.of_off (by rw [free]; rfl) rfl, iff_of_false nofun (by rw [free]; nofun), unheld.symm⟩

end Frames

/-! ### Each law where the bookings air as before -/

section Congr

variable {s t : State} (windows : t.windows = s.windows) (bookings : ∀ i : Fin 256, s.bookings[i].Airs t.bookings[i])
  (law : s.holderLaw)

include windows bookings law

theorem State.holderLaw_congr : t.holderLaw := by
  obtain ⟨holders, held⟩ := law
  refine ⟨fun w h holder => ?_, fun i onAir w named => ?_⟩
  · rw [windows] at holder
    obtain ⟨onAir, gen, named⟩ := holders w h holder
    have airs := bookings h.index
    exact ⟨airs.onAir.trans onAir, (airs.gen onAir).trans gen, (airs.windows onAir).symm ▸ named⟩
  · have airs := bookings i
    have before := airs.onAir.symm.trans onAir
    rw [windows, held i before w (airs.windows before ▸ named), State.handleOf, State.handleOf, airs.gen before]

theorem State.boundLaw_congr (bound : s.boundLaw) : t.boundLaw := by
  intro w
  rw [windows]
  exact (bound w).congr fun h holder => (bookings h.index).sources (law.1 w h holder).1

end Congr

theorem RoutingFrame.airs {s t : State} (h : RoutingFrame s t) (i : Fin 256) : s.bookings[i].Airs t.bookings[i] :=
  (h.bookings i).toAirs

theorem RoutingFrame.settlementLaw {s t : State} (h : RoutingFrame s t) (law : s.settlementLaw) : t.settlementLaw := by
  obtain ⟨nodup, listed⟩ := law
  refine ⟨h.settlements ▸ nodup, fun i => ?_⟩
  rw [h.settlements, (h.bookings i).settling, (h.bookings i).held]
  exact listed i

/-! ### The close (R124, R131) -/

section Close

variable {s : State} {i : Fin 256} (r : EndReason) (wd : Bool)

/-- A window that still has a holder after a close had it before, and it is another booking. -/
theorem State.closing_holder (law : s.holderLaw) {w : Fin 32} {h : Handle}
    (holder : (s.closing i r wd).windows[w].holder = some h) : s.windows[w].holder = some h ∧ h.index ≠ i := by
  rw [State.closing_window] at holder
  split at holder
  · cases holder
  · next kept =>
    obtain ⟨onAir, _, named⟩ := law.1 w h holder
    exact ⟨holder, fun same => kept ⟨same ▸ onAir, same ▸ named⟩⟩

theorem State.closing_holderLaw (law : s.holderLaw) : (s.closing i r wd).holderLaw := by
  refine ⟨fun w h holder => ?_, fun j onAir w named => ?_⟩
  · obtain ⟨before, other⟩ := State.closing_holder r wd law holder
    rw [State.closing_booking_other i r wd s other]
    exact law.1 w h before
  · have other : j ≠ i := by
      rintro rfl
      rw [State.closing_booking] at onAir
      cases onAir
    have entry := State.closing_booking_other i r wd s other
    rw [entry] at onAir named
    have holder := law.2 j onAir w named
    have kept : ¬(s.bookings[i].state.onAirOrOverrun = true ∧ w ∈ s.bookings[i].windows) := fun ⟨on, mem⟩ =>
      other (congrArg Handle.index (Option.some.inj (holder.symm.trans (law.2 i on w mem))))
    rw [State.closing_window, if_neg kept, holder, State.handleOf, State.handleOf, entry]

/-- The booking that closes joins the settlement list, on which it does not stand while it is live (R125). -/
theorem State.closing_settlementLaw (live : s.bookings[i].state.live = true) (law : s.settlementLaw) :
    (s.closing i r wd).settlementLaw := by
  obtain ⟨nodup, listed⟩ := law
  have unlisted : i ∉ s.settlements := fun mem =>
    Bool.eq_false_iff.1 (State.closedListed_of_settlementLaw ⟨nodup, listed⟩ i mem) live
  have settlements : (s.closing i r wd).settlements = s.settlements ++ [i] := rfl
  refine ⟨settlements ▸ List.concat_eq_append ▸ nodup.concat unlisted, fun j => ?_⟩
  by_cases same : j = i
  · subst same
    rw [State.closing_booking, settlements]
    exact ⟨iff_of_true List.mem_concat_self rfl, iff_of_true rfl rfl⟩
  · rw [State.closing_booking_other i r wd s same, settlements, List.mem_append, List.mem_singleton, or_iff_left same]
    exact listed j

theorem State.closing_boundLaw (law : s.boundLaw) : (s.closing i r wd).boundLaw := by
  have sources : ∀ j : Fin 256, (s.closing i r wd).bookings[j].sources = s.bookings[j].sources := by
    intro j
    by_cases same : j = i
    · subst same
      rw [State.closing_booking]
      rfl
    · rw [State.closing_booking_other i r wd s same]
  intro w
  rw [State.closing_window]
  split
  · exact .handed _ _ _
  · exact (law w).congr fun h _ => sources h.index

end Close

/-! ### A settlement enters (R125, R166) -/

section Enter

variable {s : State}

theorem State.settlementEnter_windows (s : State) : s.settlementEnter.windows = s.windows := by
  unfold State.settlementEnter
  repeat' split
  all_goals rfl

/-- The entry that becomes FREE was not on air. -/
theorem State.settlementEnter_airs (law : s.settlementLaw) (j : Fin 256) :
    s.bookings[j].Airs s.settlementEnter.bookings[j] := by
  rcases (s.settlementEnter_entryStands j).1 with same | ⟨mem, freed⟩
  · exact (Booking.Routes.of_eq same).toAirs
  · rw [freed]
    exact .of_off (by rw [(law.2 j).1.1 mem]; rfl) rfl

theorem State.settlementEnter_settlementLaw (law : s.settlementLaw) : s.settlementEnter.settlementLaw := by
  unfold State.settlementEnter
  split
  · exact law
  · next i rest list =>
    split
    · obtain ⟨nodup, listed⟩ := law
      rw [list] at nodup listed
      obtain ⟨fresh, nodup⟩ := List.nodup_cons.1 nodup
      refine ⟨nodup, fun j => ?_⟩
      by_cases same : i = j
      · subst same
        dsimp only
        rw [State.modBooking_same]
        exact ⟨iff_of_false fresh nofun, iff_of_false nofun nofun⟩
      · dsimp only
        rw [State.modBooking_other same, ← (listed j).1, List.mem_cons, or_iff_right (Ne.symm same), ]
        exact ⟨.rfl, by simpa [Ne.symm same] using (listed j).2.trans (listed j).1.symm⟩
    · exact law

end Enter

/-! ### ON_AIR entry (R116, R130) -/

/-- `t` follows from `s` by ON_AIR entry of booking `i`, which waits in `s` and whose windows nobody holds there. -/
structure AirStep (i : Fin 256) (s t : State) : Prop where
  waits : s.bookings[i].state.Waits
  unheld : ∀ w ∈ s.bookings[i].windows, s.windows[w].holder = none
  settlements : t.settlements = s.settlements
  others : ∀ j, j ≠ i → t.bookings[j] = s.bookings[j]
  onAir : t.bookings[i].state = .onAir
  gen : t.bookings[i].gen = s.bookings[i].gen
  names : t.bookings[i].windows = s.bookings[i].windows
  held : t.bookings[i].held = s.bookings[i].held
  windows : ∀ w : Fin 32, t.windows[w] =
    if w ∈ s.bookings[i].windows then s.windows[w].handed (some (s.handleOf i)) true else s.windows[w]

theorem BookingState.Waits.off {x : BookingState} (waits : x.Waits) : x.onAirOrOverrun = false := by
  rcases waits with rfl | rfl <;> rfl

theorem BookingState.Waits.live {x : BookingState} (waits : x.Waits) : x.live = true := by
  rcases waits with rfl | rfl <;> rfl

theorem BookingState.Waits.ne_settling {x : BookingState} (waits : x.Waits) : x ≠ .settling := by
  rcases waits with rfl | rfl <;> nofun

theorem State.enterOnAir_airStep {s : State} {i : Fin 256} (waits : s.bookings[i].state.Waits)
    (unheld : ∀ w ∈ s.bookings[i].windows, s.windows[w].holder = none) (fresh : Bool) (n : Nat) :
    AirStep i s (s.enterOnAir i fresh n) := by
  have entry := s.enterOnAir_booking i fresh n
  obtain ⟨_, windows, _, _, _, _, settlements⟩ := s.enterOnAir_tables i fresh n
  exact {
    waits := waits
    unheld := unheld
    settlements := settlements
    others := fun j other => (s.enterOnAir_othersStand i fresh n j other).1
    onAir := by rw [entry]; rfl
    gen := by rw [entry]; rfl
    names := by rw [entry]; rfl
    held := by rw [entry]; rfl
    windows := fun w => by rw [windows, State.airing_window] }

section Air

variable {i : Fin 256} {s t : State} (h : AirStep i s t)

include h

theorem AirStep.handleOf (j : Fin 256) : t.handleOf j = s.handleOf j := by
  by_cases same : j = i
  · subst same
    rw [State.handleOf, State.handleOf, h.gen]
  · rw [State.handleOf, State.handleOf, h.others j same]

/-- The booking that enters holds no window before. -/
theorem AirStep.holder_ne (law : s.holderLaw) {w : Fin 32} {x : Handle} (holder : s.windows[w].holder = some x) :
    x.index ≠ i := by
  rintro rfl
  exact Bool.eq_false_iff.1 h.waits.off (law.1 w x holder).1

theorem AirStep.holderLaw (law : s.holderLaw) : t.holderLaw := by
  refine ⟨fun w x holder => ?_, fun j onAir w named => ?_⟩
  · rw [h.windows] at holder
    split at holder
    · next named =>
      cases holder
      have entered : t.bookings[i].state.onAirOrOverrun = true := by rw [h.onAir]; rfl
      exact ⟨entered, h.gen, h.names.symm ▸ named⟩
    · rw [h.others x.index (h.holder_ne law holder)]
      exact law.1 w x holder
  · rw [h.windows, h.handleOf]
    by_cases same : j = i
    · subst same
      rw [if_pos (h.names ▸ named)]
      rfl
    · rw [h.others j same] at onAir named
      have holder := law.2 j onAir w named
      have outside : w ∉ s.bookings[i].windows := fun mem => nomatch holder.symm.trans (h.unheld w mem)
      rw [if_neg outside, holder]

theorem AirStep.settlementLaw (law : s.settlementLaw) : t.settlementLaw := by
  obtain ⟨nodup, listed⟩ := law
  refine ⟨h.settlements ▸ nodup, fun j => ?_⟩
  rw [h.settlements]
  by_cases same : j = i
  · subst same
    have settles : t.bookings[j].state = .settling ↔ s.bookings[j].state = .settling :=
      iff_of_false (by rw [h.onAir]; nofun) h.waits.ne_settling
    rw [settles, h.held]
    exact listed j
  · rw [h.others j same]
    exact listed j

theorem AirStep.boundLaw (law : s.holderLaw) (bound : s.boundLaw) : t.boundLaw := by
  intro w
  rw [h.windows]
  split
  · exact .handed _ _ _
  · exact (bound w).congr fun x holder => by rw [h.others x.index (h.holder_ne law holder)]

end Air

/-! ### A change of one window (R129, R137, R139, R140) -/

/-- `y` has the holder of `x`, and is bound where `x` is. -/
structure Window.Serves (s : State) (x y : Window) : Prop where
  holder : y.holder = x.holder
  bound : x.Bound s → y.Bound s

section Serve

variable {s : State} {x y z : Window}

theorem Window.Serves.trans (h : x.Serves s y) (k : y.Serves s z) : x.Serves s z :=
  ⟨k.holder.trans h.holder, k.bound ∘ h.bound⟩

/-- The holder, the bindings and the last sequence stand. -/
theorem Window.Serves.of_same (holder : y.holder = x.holder) (bindings : y.bindings = x.bindings)
    (last : y.last = x.last) : x.Serves s y := by
  refine ⟨holder, fun bound src m q len leg mem => ?_⟩
  rw [holder, last]
  exact bound src m q len leg (bindings ▸ mem)

theorem Window.Serves.refl (x : Window) : x.Serves s x := .of_same rfl rfl rfl

/-- The last sequence of a take is not older than a binding (R137). -/
theorem Window.serves_take (x : Window) (d k n : Nat) (sh : Word16) : x.Serves s (x.take d k n sh) := by
  refine ⟨rfl, fun bound src m q len leg mem => ?_⟩
  obtain ⟨named, last⟩ := bound src m q len leg mem
  refine ⟨named, ?_⟩
  have took : (x.take d k n sh).last = if x.bindings.any (Binding.newerThan (sh - BitVec.ofNat 16 (x.guard + 1)))
      then x.last else some (sh - BitVec.ofNat 16 (x.guard + 1)) := rfl
  rw [took]
  split
  · exact last
  · next older =>
    exact ⟨_, rfl, Bool.eq_false_iff.2 fun newer => older (List.any_eq_true.2 ⟨_, mem, newer⟩)⟩

/-- A fill binds its slot to FILL, if anything (R134, R140). -/
theorem Window.serves_filled (x : Window) (d k : Nat) (r : FillReason) :
    x.Serves s (x.filled d k r).advance := by
  by_cases unrouted : r = .unrouted
  · subst unrouted
    exact .of_same rfl rfl rfl
  · have holder : (x.filled d k r).advance.holder = x.holder := by rw [x.filled_frame]; rfl
    have last : (x.filled d k r).advance.last = x.last := by rw [x.filled_frame]; rfl
    have bindings : (x.filled d k r).advance.bindings = x.bindings.set k .fill := x.filled_bindings d k unrouted
    refine ⟨holder, fun bound src m q len leg mem => ?_⟩
    rw [bindings] at mem
    rw [holder, last]
    exact bound src m q len leg ((List.mem_or_eq_of_mem_set mem).resolve_right nofun)

/-- The SOURCE bindings after a delivery are its own and those not newer than its sequence (R139). -/
theorem source_of_mem_bindDelivered {bs : List Binding} {k : Nat} {b : Binding} {p : Word16} {src : Fin 48} {m : Nat}
    {q : Word16} {len : Nat} {leg : LegName} (mem : .source src m q len leg ∈ bindDelivered bs k b p) :
    .source src m q len leg = b ∨ .source src m q len leg ∈ bs ∧ newer q p = false := by
  refine (List.mem_or_eq_of_mem_set mem).symm.imp_right fun kept => ?_
  obtain ⟨a, mem, same⟩ := List.mem_map.1 kept
  split at same
  · cases same
  · next older =>
    subst same
    exact ⟨mem, Bool.eq_false_iff.2 older⟩

/-- A delivery from a source of the holder (R139). -/
theorem Window.serves_deliver {h : Handle} (holder : x.holder = some h) {src : Fin 48}
    (named : src ∈ s.bookings[h.index].sources) (d k : Nat) (leg : LegName) (m : Nat) (e : SlotEntry) :
    x.Serves s (x.deliver d k leg src m e).advance := by
  rw [Window.deliver_advance]
  refine ⟨rfl, fun bound src' m' q len leg' mem => ?_⟩
  rcases source_of_mem_bindDelivered mem with same | ⟨before, older⟩
  · cases same
    exact ⟨⟨h, holder, named⟩, _, rfl, newer_self e.seq⟩
  · exact ⟨(bound src' m' q len leg' before).1, _, rfl, older⟩

end Serve

/-! ### The decision of a header read (R134 to R138) -/

/-- The window record of the decision serves `x`, and a delivery is from a source of its holder. -/
def HeaderDecision.Serves (s : State) (x : Window) : HeaderDecision → Prop
  | .fill y _ => x.Serves s y
  | .deliver y _ src _ _ => x.Serves s y ∧ ∃ h, y.holder = some h ∧ src ∈ s.bookings[h.index].sources

section Decision

variable {s : State} {x y : Window} {h : Handle} (k : Nat)

theorem Booking.mem_sources_of_legSource? {b : Booking} {leg : LegName} {src : Fin 48}
    (source : b.legSource? leg = some src) : src ∈ b.sources := by
  cases leg with
  | main =>
    cases source
    exact List.mem_cons_self
  | backup => exact List.mem_cons_of_mem _ (Option.mem_toList.2 source)

theorem State.candidateStage_serves (serves : x.Serves s y) (holder : y.holder = some h) :
    (s.candidateStage y k (s.usableLegs h.index)).Serves s x := by
  cases found : s.candidate y.last ((k + y.shift) % s.ctl.settings.d) (s.usableLegs h.index) with
  | none =>
    rw [State.candidateStage_of_none k found]
    exact serves
  | some c =>
    obtain ⟨leg, src, e⟩ := c
    rw [State.candidateStage_of_some k found]
    obtain ⟨_, source, _⟩ := State.mem_usableLegs_iff.1 (State.mem_of_candidate found)
    exact ⟨serves, h, holder, Booking.mem_sources_of_legSource? source⟩

theorem State.headerDecision_serves (s : State) (x : Window) (k : Nat) : (s.headerDecision x k).Serves s x := by
  cases holder : x.holder with
  | none =>
    rw [State.headerDecision_of_unheld k holder]
    exact .refl x
  | some h =>
    cases legs : s.usableLegs h.index with
    | nil =>
      rw [State.headerDecision_of_down k holder legs]
      exact .refl x
    | cons leg rest =>
      rw [State.headerDecision_of_legs k holder legs, ← legs]
      unfold State.takeStage
      split
      · split
        · exact State.candidateStage_serves k (x.serves_take _ _ _ _) holder
        · exact .refl x
      · exact State.candidateStage_serves k (.refl x) holder

end Decision

section PutWindow

variable {s : State} {i : Fin 32} {y : Window} (serves : s.windows[i].Serves s y)

include serves

theorem State.putWindow_holderLaw (law : s.holderLaw) : (s.putWindow i y).holderLaw := by
  have holder : ∀ w : Fin 32, (s.putWindow i y).windows[w].holder = s.windows[w].holder := by
    intro w
    by_cases same : i = w
    · subst same
      rw [State.putWindow_same, serves.holder]
    · rw [State.putWindow_other same]
  refine ⟨fun w h held => law.1 w h ((holder w).symm.trans held), fun j onAir w named => ?_⟩
  exact (holder w).trans (law.2 j onAir w named)

theorem State.putWindow_boundLaw (law : s.boundLaw) : (s.putWindow i y).boundLaw := by
  intro w
  by_cases same : i = w
  · subst same
    rw [State.putWindow_same]
    exact serves.bound (law i)
  · rw [State.putWindow_other same]
    exact law w

end PutWindow

end Sys2Proof.Machine


namespace Sys2Proof.Machine

/-! ### The closes before a start leave the windows unheld (R115, R131) -/

section Clear

/-- No window takes a holder from `s` to `t`. -/
def State.holdersLeave (s t : State) : Prop :=
  ∀ w : Fin 32, t.windows[w].holder = s.windows[w].holder ∨ t.windows[w].holder = none

theorem State.closeBooking_windows (i : Fin 256) (r : EndReason) (wd : Bool) (s : State) :
    (s.closeBooking i r wd).windows = (s.closing i r wd).windows := by
  have enters : ∀ (n : Nat) (s : State), (s.settlementsEnter n).windows = s.windows := by
    intro n
    induction n with
    | zero => exact fun _ => rfl
    | succ n ih => exact fun s => (ih _).trans s.settlementEnter_windows
  exact enters _ _

theorem State.closeBooking_holdersLeave (i : Fin 256) (r : EndReason) (wd : Bool) (s : State) :
    s.holdersLeave (s.closeBooking i r wd) := by
  intro w
  rw [State.closeBooking_windows, State.closing_window]
  split
  · exact Or.inr rfl
  · exact Or.inl rfl

variable {f : State → Fin 256 → State}

theorem State.foldl_holdersLeave (leaves : ∀ (s : State) a, s.holdersLeave (f s a)) (l : List (Fin 256)) (s : State) :
    s.holdersLeave (l.foldl f s) := by
  induction l generalizing s with
  | nil => exact fun _ => Or.inl rfl
  | cons a l ih =>
    intro w
    rcases ih (f s a) w with same | gone
    · exact (leaves s a w).imp same.trans same.trans
    · exact Or.inr gone

/-- Closes one after another leave each booking of the list closed, whatever the reason of each. -/
theorem State.foldl_closes (closes : ∀ (s : State) a, (f s a).bookings[a].state.live = false ∧ s.keepsClosed (f s a))
    (l : List (Fin 256)) (s : State) {i : Fin 256} (h : i ∈ l ∨ s.bookings[i].state.live = false) :
    (l.foldl f s).bookings[i].state.live = false := by
  induction l generalizing s with
  | nil => exact h.resolve_left List.not_mem_nil
  | cons a l ih =>
    refine ih (f s a) ?_
    rcases h with mem | closed
    · rcases List.mem_cons.1 mem with rfl | later
      · exact Or.inr (closes s i).1
      · exact Or.inl later
    · exact Or.inr ((closes s a).2 i closed)

theorem State.holdersFor_nodup (s : State) (i : Fin 256) : (s.holdersFor i).Nodup := (List.nodup_finRange 256).filter _

theorem State.mem_holdersFor_iff {s : State} {i a : Fin 256} : a ∈ s.holdersFor i ↔
    a ≠ i ∧ ∃ w ∈ s.bookings[i].windows, (s.windows[w].holder.map fun h => h.index) = some a := by
  rw [State.holdersFor_eq, List.mem_filter, decide_eq_true_iff]
  exact and_iff_right (List.mem_finRange a)

theorem BookingState.live_of_onAirOrOverrun {x : BookingState} (onAir : x.onAirOrOverrun = true) : x.live = true := by
  cases x
  case onAir | overrun => rfl
  all_goals cases onAir

/-- The closes before a start are of bookings on air (R115, R130). -/
theorem State.live_of_mem_holdersFor {s : State} (law : s.holderLaw) {i a : Fin 256} (mem : a ∈ s.holdersFor i) :
    s.bookings[a].state.live = true := by
  obtain ⟨_, w, _, held⟩ := State.mem_holdersFor_iff.1 mem
  obtain ⟨h, holder, rfl⟩ := Option.map_eq_some_iff.1 held
  exact BookingState.live_of_onAirOrOverrun (law.1 w h holder).1

/-- A start finds its windows without a holder: the holder of one before was closed. -/
theorem State.clearWindows_unheld {s : State} {i : Fin 256} (waits : s.bookings[i].state.Waits) (law : s.holderLaw)
    (cleared : (s.clearWindows i).holderLaw) {w : Fin 32} (named : w ∈ s.bookings[i].windows) :
    (s.clearWindows i).windows[w].holder = none := by
  have leaves : s.holdersLeave (s.clearWindows i) :=
    State.foldl_holdersLeave (fun s a => s.closeBooking_holdersLeave a (yieldReason s.bookings[a]) false) _ s
  refine Option.eq_none_iff_forall_not_mem.2 fun h holder => ?_
  have before : s.windows[w].holder = some h :=
    ((leaves w).resolve_right (Option.ne_none_iff_exists'.2 ⟨h, holder⟩)).symm.trans holder
  have other : h.index ≠ i := by
    rintro rfl
    exact Bool.eq_false_iff.1 waits.off (law.1 w h before).1
  have mem : h.index ∈ s.holdersFor i := State.mem_holdersFor_iff.2 ⟨other, w, named, by rw [before]; rfl⟩
  have closed : (s.clearWindows i).bookings[h.index].state.live = false :=
    State.foldl_closes (fun s a => s.closeBooking_closes a (yieldReason s.bookings[a]) false) _ s (Or.inl mem)
  exact Bool.eq_false_iff.1 closed (BookingState.live_of_onAirOrOverrun (cleared.1 w h holder).1)

end Clear

/-! ### Every step keeps a property of the routing -/

/-- A property of the windows, the bookings and the settlement list that each place where they change keeps. It holds
of cleared tables, and rests on the laws of the holders and of the settlements. -/
structure RoutingInvariant (P : State → Prop) : Prop where
  holder : ∀ {s : State}, P s → s.holderLaw
  settlement : ∀ {s : State}, P s → s.settlementLaw
  frame : ∀ {s t : State}, RoutingFrame s t → P s → P t
  closing : ∀ {s : State} (i : Fin 256) (r : EndReason) (wd : Bool), s.bookings[i].state.live = true → P s →
    P (s.closing i r wd)
  enter : ∀ {s : State}, P s → P s.settlementEnter
  air : ∀ {i : Fin 256} {s t : State}, AirStep i s t → P s → P t
  window : ∀ {s : State} {w : Fin 32} {x : Window}, s.windows[w].Serves s x → P s → P (s.putWindow w x)
  cleared : ∀ {s : State}, (∀ w : Fin 32, ∃ d, s.windows[w] = Window.reset d) →
    (∀ i : Fin 256, ∃ g, s.bookings[i] = Booking.reset g) → s.settlements = [] → P s

namespace RoutingInvariant

variable {P : State → Prop} (inv : RoutingInvariant P)

include inv

theorem closedListed {s : State} (hs : P s) : s.closedListed := State.closedListed_of_settlementLaw (inv.settlement hs)

theorem ofSame {s t : State} (hs : P s) (windows : t.windows = s.windows) (settlements : t.settlements = s.settlements)
    (bookings : t.bookings = s.bookings) : P t := inv.frame (.ofSame windows settlements bookings) hs

/-! #### The closes (R115, R124, R126) -/

theorem closeBooking {i : Fin 256} (r : EndReason) (wd : Bool) {s : State} (live : s.bookings[i].state.live = true)
    (hs : P s) : P (s.closeBooking i r wd) := by
  have enters : ∀ (n : Nat) {s : State}, P s → P (s.settlementsEnter n) := by
    intro n
    induction n with
    | zero => exact id
    | succ n ih => exact fun hs => ih (inv.enter hs)
  exact enters _ (inv.closing i r wd live hs)

/-- A close leaves the other bookings of the list live. -/
theorem closeBookings (r : State → Fin 256 → EndReason) (wd : Bool) {l : List (Fin 256)} (nodup : l.Nodup) {s : State}
    (live : ∀ a ∈ l, s.bookings[a].state.live = true) (hs : P s) :
    P (l.foldl (fun s a => s.closeBooking a (r s a) wd) s) := by
  induction l generalizing s with
  | nil => exact hs
  | cons a l ih =>
    obtain ⟨fresh, nodup⟩ := List.nodup_cons.1 nodup
    refine ih nodup (fun b mem => ?_) (inv.closeBooking _ wd (live a List.mem_cons_self) hs)
    have other : b ≠ a := fun same => fresh (same ▸ mem)
    have before := live b (List.mem_cons_of_mem a mem)
    rw [(s.closeBooking_entryStands other (r s a) wd).of_live (inv.closedListed hs) before]
    exact before

theorem cancelBooking {i : Fin 256} (wd : Bool) {s : State} (live : s.bookings[i].state.live = true) (hs : P s) :
    P (s.cancelBooking i wd) := by
  have noted : P (s.modBooking i fun b => { b with cancelTime := some s.now }) :=
    inv.frame (.modBooking (.of_same rfl rfl rfl rfl rfl)) hs
  refine inv.closeBooking .cancelled wd ?_ noted
  rw [State.modBooking_same]
  exact live

theorem clearWindows (i : Fin 256) {s : State} (hs : P s) : P (s.clearWindows i) :=
  inv.closeBookings (fun s a => yieldReason s.bookings[a]) false (s.holdersFor_nodup i)
    (fun _ mem => State.live_of_mem_holdersFor (inv.holder hs) mem) hs

theorem haltBookings {s : State} (hs : P s) : P s.haltBookings :=
  inv.closeBookings (fun _ _ => .halted) false ((List.nodup_finRange 256).filter _)
    (fun _ mem => (List.mem_filter.1 mem).2) hs

/-! #### The start (R111, R115, R116) -/

theorem startBooking {i : Fin 256} (fresh : Bool) {s : State} (waits : s.bookings[i].state.Waits) (hs : P s) :
    P (s.startBooking i fresh) := by
  have kept := (s.clearWindows_entryStands i).of_live (inv.closedListed hs) waits.live
  have cleared := inv.clearWindows i hs
  refine inv.air (State.enterOnAir_airStep ?_ ?_ fresh _) cleared
  · rw [kept]
    exact waits
  · rw [kept]
    exact fun _ => State.clearWindows_unheld waits (inv.holder hs) (inv.holder cleared)

theorem firstState {i : Fin 256} {s : State} (pending : s.bookings[i].state = .pending) (hs : P s) :
    P (s.firstState i) := by
  unfold State.firstState
  dsimp only
  split
  · exact inv.startBooking true (Or.inl pending) hs
  · split
    · exact inv.frame (State.enterPreroll_routingFrame pending) hs
    · exact inv.frame (.modBooking (.of_same rfl rfl rfl rfl rfl)) hs

/-! #### The orders of a booking (R111, R119 to R122) -/

theorem bookOrder (e : List Byte) (n : Nat) {s : State} (hs : P s) : P (Machine.bookOrder e n s).1 := by
  unfold Machine.bookOrder
  split
  · exact hs
  · next o _ =>
    split
    · exact hs
    · next i check =>
      have free := State.free_of_bookCheck check
      have unheld : s.bookings[i].held.isSome = false := Bool.eq_false_iff.2 fun held =>
        nomatch free.symm.trans (((inv.settlement hs).2 i).2.1 held)
      refine inv.firstState ?_ (inv.frame (State.recordBooking_routingFrame o free unheld) hs)
      rw [State.recordBooking_booking]
      rfl

theorem extendOrder (e : List Byte) (n : Nat) {s : State} (hs : P s) : P (Machine.extendOrder e n s).1 := by
  unfold Machine.extendOrder
  dsimp only
  repeat' split
  case isFalse.isFalse.isFalse.isFalse => exact inv.frame (State.extendBooking_routingFrame _ _ _) hs
  all_goals exact hs

theorem releaseOrder (e : List Byte) (n : Nat) {s : State} (hs : P s) : P (Machine.releaseOrder e n s).1 := by
  unfold Machine.releaseOrder
  dsimp only
  repeat' split
  case isFalse.isTrue onAir => exact inv.closeBooking _ _ (BookingState.live_of_onAirOrOverrun onAir) hs
  all_goals exact hs

theorem cancelOrder (e : List Byte) (n : Nat) {s : State} (hs : P s) : P (Machine.cancelOrder e n s).1 := by
  unfold Machine.cancelOrder
  dsimp only
  repeat' split
  case h_1 state => exact inv.cancelBooking _ (BookingState.Waits.live (Or.inl state)) hs
  case h_2 state => exact inv.cancelBooking _ (BookingState.Waits.live (Or.inr state)) hs
  all_goals exact hs

/-! #### The expiries of a booking (R112, R115, R117, R118) -/

theorem takePreroll (i : Fin 256) {s : State} (hs : P s) : P (s.takePreroll i) := by
  unfold State.takePreroll
  split
  · next due =>
    split
    · exact inv.cancelBooking _ (BookingState.Waits.live (Or.inl due.1)) hs
    · exact inv.frame (State.enterPreroll_routingFrame due.1) hs
  · exact hs

theorem takeStart (i : Fin 256) {s : State} (hs : P s) : P (s.takeStart i) := by
  unfold State.takeStart
  split
  · next due => exact inv.startBooking false (Or.inr due.1) hs
  · exact hs

theorem takeEnd (i : Fin 256) {s : State} (hs : P s) : P (s.takeEnd i) := by
  unfold State.takeEnd
  split
  · next due =>
    split
    · exact inv.frame (State.enterOverrun_routingFrame due.1) hs
    · exact inv.closeBooking _ _ (by rw [due.1]; rfl) hs
  · exact hs

theorem takeCap (i : Fin 256) {s : State} (hs : P s) : P (s.takeCap i) := by
  unfold State.takeCap
  split
  · next due => exact inv.closeBooking _ _ (by rw [due.1]; rfl) hs
  · exact hs

/-! #### The windows (R129, R132 to R145) -/

/-- The window record of a read, the meter it feeds, and its answer. -/
theorem windowRead (t : Txn) (w : Fin 32) (k off : Nat) {s : State} (hs : P s) : P (s.windowRead t w k off) := by
  have feed : ∀ {x : Window} (holder : Option Handle) (f : Meter → Meter), s.windows[w].Serves s x →
      P ((s.putWindow w x).feedHolder holder f) := fun holder f serves =>
    inv.frame (State.feedHolder_quiet holder f _).routingFrame (inv.window serves hs)
  have decision := s.headerDecision_serves s.windows[w] k
  unfold State.windowRead State.windowHeaderRead State.windowPayloadRead
  split
  · split
    · next y reason decided =>
      rw [decided] at decision
      have serves := decision.trans (y.serves_filled s.ctl.settings.d k reason)
      have filled : P (s.fillTables w k y reason) := by
        unfold State.fillTables
        split
        · exact inv.window serves hs
        · exact feed _ _ serves
      rw [State.answerFill_eq]
      exact inv.ofSame filled rfl rfl rfl
    · next y leg src m e decided =>
      rw [decided] at decision
      obtain ⟨serves, h, holder, named⟩ := decision
      have delivered := serves.trans (Window.serves_deliver holder named s.ctl.settings.d k leg m e)
      exact inv.ofSame (feed _ _ delivered) rfl rfl rfl
  · split <;> exact inv.ofSame hs rfl rfl rfl

theorem defineWindowOrder (e : List Byte) (n : Nat) {s : State} (hs : P s) :
    P (Machine.defineWindowOrder e n s).1 := by
  unfold Machine.defineWindowOrder
  dsimp only
  repeat' split
  case h_2.isFalse => exact inv.window (.of_same rfl rfl rfl) hs
  all_goals exact hs

/-! #### Every step -/

theorem reset : P State.reset :=
  inv.cleared (fun w => ⟨0, State.reset_window w⟩) (fun i => ⟨0, State.reset_booking i⟩) rfl

theorem clearTables (d : Nat) (s : State) : P (s.clearTables d) :=
  inv.cleared (fun _ => ⟨d, Vector.getElem_replicate _⟩) (fun i => ⟨s.bookings[i].gen, Vector.getElem_map ..⟩) rfl

theorem tableInvariant : TableInvariant P where
  frame hs same := inv.frame (.ofTables same) hs
  judged src k v _ hs := inv.frame (State.judged_sourceStep src k v _).routingFrame hs
  silence i hs := inv.frame (State.takeSilence_routingFrame _ i) hs
  interval hs := inv.ofSame hs rfl rfl rfl
  read t w k off hs := inv.windowRead t w k off hs
  define o _ hs := inv.frame (State.defineSource_sourceStep o _).routingFrame hs
  clear i hs := inv.frame (State.clearSource_sourceStep i _).routingFrame hs
  forceLeg i f hs := inv.frame (State.forceLeg_quiet i f _).routingFrame hs
  book e n _ hs := inv.bookOrder e n hs
  extend e n hs := inv.extendOrder e n hs
  release e n hs := inv.releaseOrder e n hs
  cancel e n hs := inv.cancelOrder e n hs
  window e n hs := inv.defineWindowOrder e n hs
  house new _ hs := inv.frame (State.setHouse_routingFrame _ new) hs
  halt hs := inv.haltBookings hs
  settle hs := inv.enter hs
  restore i hs := inv.frame (State.takeRestore_routingFrame _ i) hs
  preroll i hs := inv.takePreroll i hs
  lineWait i hs := inv.frame (State.takeLineWait_routingFrame _ i) hs
  start i hs := inv.takeStart i hs
  finish i hs := inv.takeEnd i hs
  cap i hs := inv.takeCap i hs
  reset same := inv.frame (.ofTables same) inv.reset
  cleared d same := inv.frame (.ofTables same) (inv.clearTables d _)

end RoutingInvariant

/-! ### The laws of the routing -/

/-- The holders and the settlements are lawful (R125, R130, R166). -/
def State.routingLaw (s : State) : Prop := s.holderLaw ∧ s.settlementLaw

section Cleared

variable {s : State} (windows : ∀ w : Fin 32, ∃ d, s.windows[w] = Window.reset d)

include windows

theorem State.boundLaw_of_reset : s.boundLaw := by
  intro w
  obtain ⟨d, reset⟩ := windows w
  rw [reset]
  exact .reset d

theorem State.routingLaw_of_reset (bookings : ∀ i : Fin 256, ∃ g, s.bookings[i] = Booking.reset g)
    (settlements : s.settlements = []) : s.routingLaw := by
  refine ⟨⟨fun w h holder => ?_, fun i onAir => ?_⟩, settlements ▸ List.nodup_nil, fun i => ?_⟩
  · obtain ⟨d, reset⟩ := windows w
    rw [reset] at holder
    cases holder
  · obtain ⟨g, reset⟩ := bookings i
    rw [reset] at onAir
    cases onAir
  · obtain ⟨g, reset⟩ := bookings i
    rw [settlements, reset]
    exact ⟨iff_of_false List.not_mem_nil nofun, iff_of_false nofun nofun⟩

end Cleared

theorem routingLaw_routingInvariant : RoutingInvariant State.routingLaw where
  holder := And.left
  settlement := And.right
  frame h := fun ⟨holder, settlement⟩ => ⟨State.holderLaw_congr h.windows h.airs holder, h.settlementLaw settlement⟩
  closing _ r wd live := fun ⟨holder, settlement⟩ =>
    ⟨State.closing_holderLaw r wd holder, State.closing_settlementLaw r wd live settlement⟩
  enter {s} := fun ⟨holder, settlement⟩ =>
    ⟨State.holderLaw_congr s.settlementEnter_windows (State.settlementEnter_airs settlement) holder,
      State.settlementEnter_settlementLaw settlement⟩
  air h := fun ⟨holder, settlement⟩ => ⟨h.holderLaw holder, h.settlementLaw settlement⟩
  window serves := fun ⟨holder, settlement⟩ => ⟨State.putWindow_holderLaw serves holder, settlement⟩
  cleared windows bookings settlements := State.routingLaw_of_reset windows bookings settlements

/-- The bindings follow the holders, whose law every step keeps. -/
theorem boundLaw_routingInvariant : RoutingInvariant fun s => s.routingLaw ∧ s.boundLaw where
  holder hs := hs.1.1
  settlement hs := hs.1.2
  frame h := fun ⟨law, bound⟩ =>
    ⟨routingLaw_routingInvariant.frame h law, State.boundLaw_congr h.windows h.airs law.1 bound⟩
  closing i r wd live := fun ⟨law, bound⟩ =>
    ⟨routingLaw_routingInvariant.closing i r wd live law, State.closing_boundLaw r wd bound⟩
  enter {s} := fun ⟨law, bound⟩ =>
    ⟨routingLaw_routingInvariant.enter law,
      State.boundLaw_congr s.settlementEnter_windows (State.settlementEnter_airs law.2) law.1 bound⟩
  air h := fun ⟨law, bound⟩ => ⟨routingLaw_routingInvariant.air h law, h.boundLaw law.1 bound⟩
  window serves := fun ⟨law, bound⟩ =>
    ⟨routingLaw_routingInvariant.window serves law, State.putWindow_boundLaw serves bound⟩
  cleared windows bookings settlements :=
    ⟨State.routingLaw_of_reset windows bookings settlements, State.boundLaw_of_reset windows⟩

/-- Settles O56: the two laws are kept together, since a close and a start read both. -/
theorem holdersAndSettlementsStayLawful : Obligations.HoldersAndSettlementsStayLawful :=
  fun _ _ holder settlement next =>
    routingLaw_routingInvariant.tableInvariant.step next settlement ⟨holder, settlement⟩

/-- Settles O57: the bindings of each window are bound to its holder, at every step. -/
theorem bindingsStayLawful : Obligations.BindingsStayLawful := by
  intro s t holder settlement binding named next
  obtain ⟨_, bound⟩ := boundLaw_routingInvariant.tableInvariant.step next settlement
    ⟨⟨holder, settlement⟩, s.boundLaw_iff.2 ⟨binding, named⟩⟩
  exact t.boundLaw_iff.1 bound

end Sys2Proof.Machine

namespace Sys2Proof.Machine

/-! ## The settlement arithmetic (R159 to R163, Table 8-2) -/

/-- The excess of stages 2 and 3: the difference "if positive, otherwise 0" is the truncated one. -/
theorem sub_eq_excess (x y : Nat) : x - y = if y < x then x - y else 0 := by
  split
  · rfl
  · next notAbove => exact Nat.sub_eq_zero_of_le (Nat.le_of_not_lt notAbove)

/-! ### A booking that aired -/

section Aired

variable (b : Booking) (m : Meter) (ae : Nat)

/-- Stage 2: the time on air past the planned end (R159). -/
theorem chargesAired_overrunMs :
    (chargesAired b m ae).overrunMs = if b.endE < ae then ae - b.endE else 0 :=
  sub_eq_excess ae b.endE

/-- Stage 3: grace is taken off in milliseconds, before any rounding (R159). -/
theorem chargesAired_chargeableMs :
    let x := chargesAired b m ae
    x.chargeableMs = if b.tariff.grace < x.overrunMs then x.overrunMs - b.tariff.grace else 0 :=
  sub_eq_excess _ b.tariff.grace

/-- Stage 10: the uncapped credit, or the base charge where that is less (R162). -/
theorem chargesAired_credit :
    let x := chargesAired b m ae
    x.credit = if x.creditMin * b.tariff.credit ≤ x.baseCharge then x.creditMin * b.tariff.credit
      else x.baseCharge :=
  Nat.min_def

/-- CREDIT_CAPPED stands for an uncapped credit above the base charge, and not for an equal one (R162). -/
theorem chargesAired_capped_iff :
    let x := chargesAired b m ae
    x.capped = true ↔ x.baseCharge < x.creditMin * b.tariff.credit :=
  decide_eq_true_iff

/-- The credit never exceeds the base charge, so overrun is paid in full (R162). -/
theorem chargesAired_credit_le : (chargesAired b m ae).credit ≤ (chargesAired b m ae).baseCharge :=
  Nat.min_le_right ..

end Aired

/-! ### A booking that never aired -/

/-- No base minutes are charged, so neither is any rate for them (R163). -/
theorem chargesNeverAired_uncharged (b : Booking) : chargesNeverAired b false =
    { bookedMs := b.endE - b.startS, overrunMs := 0, chargeableMs := 0, qualifyingMs := 0,
      baseMin := 0, overMin := 0, creditMin := 0, baseCharge := 0, overCharge := 0, credit := 0,
      total := 0, capped := false } := by
  simp only [chargesNeverAired, Bool.false_eq_true, if_false, Nat.zero_mul]

/-- A late cancellation is charged the whole planned duration, at stages 4, 7 and 8 (R163). -/
theorem chargesNeverAired_late (b : Booking) : chargesNeverAired b true =
    (let baseMin := minutesUp (b.endE - b.startS)
     let charge := baseMin * rateEff b.tariff.base b.tariff.fan b.windows.length
     { bookedMs := b.endE - b.startS, overrunMs := 0, chargeableMs := 0, qualifyingMs := 0,
       baseMin, overMin := 0, creditMin := 0, baseCharge := charge, overCharge := 0, credit := 0,
       total := charge, capped := false }) := rfl

/-- Settles O41: the stages that choose (2, 3 and 10) have lemmas of their own, and each other stage is its
formula in Table 8-2. -/
theorem settlementStages : Obligations.SettlementStages := by
  intro b m ae
  refine ⟨⟨?booked, chargesAired_overrunMs b m ae, chargesAired_chargeableMs b m ae, ?qualifying, ?baseMin, ?overMin,
    ?creditMin, ?baseCharge, ?overCharge, chargesAired_credit b m ae, chargesAired_capped_iff b m ae,
    chargesAired_credit_le b m ae, ?total⟩, chargesNeverAired_uncharged b, chargesNeverAired_late b⟩
  case booked | qualifying | baseMin | overMin | creditMin | baseCharge | overCharge | total => rfl

end Sys2Proof.Machine

namespace Sys2Proof.Machine

/-! ## The queue of commands (logs 3 and 26) -/

/-- An empty queue: the block idles (log 3). -/
theorem step_of_pending_nil {s : State} (h : s.pending = []) : step s = .next s := by
  simp only [step, h]

/-- A queue with a front command: the command runs on the state with the queue's rest. -/
theorem step_of_pending_cons {s : State} {c : Instr} {rest : List Instr} (h : s.pending = c :: rest) :
    step s = exec c { s with pending := rest } := by
  simp only [step, h]

/-- Settles O1, by the two cases of the queue. -/
theorem stepRunsTheFrontCommand : Obligations.StepRunsTheFrontCommand :=
  ⟨fun c rest s => step_of_pending_cons (s := { s with pending := c :: rest }) rfl, fun _ => step_of_pending_nil⟩

/-- Settles O2: what every command does to the queues (`exec_queue`) leaves the queue of commands. -/
theorem everyCommandCompletesAndKeepsTheQueue : Obligations.EveryCommandCompletesAndKeepsTheQueue := by
  intro c s
  obtain ⟨t, next, queues⟩ := exec_queue c s
  exact ⟨t, next, queues.pending⟩

end Sys2Proof.Machine
